-- ==== Sys2Proof/Word.lean ====
section
/-! DEFINITION. Word: the two bit-vector types of the part. Only what travels on a port as a byte, and the sets that a
port carries as two bytes (R177), are bit vectors; every number the manual counts with is a `Nat`. -/

namespace Sys2Proof

/-- One byte of a frame on a two-wire port (R172, R175). -/
abbrev Byte := BitVec 8

/-- A set of zones, landings or event flags: the bit of weight 2 to the power n stands for member n (R177). -/
abbrev Set16 := BitVec 16

/-- A set of day classes 0 to 7 in one byte (R176). -/
abbrev ClassSet := BitVec 8

end Sys2Proof
end

