-- ==== Sys2Proof/Syntax.lean ====
section
/-! DEFINITION. Syntax: the commands of the part, one constructor of `Instr` for each row of spec/opcode_table.json.

The requests carry their operands as they travel on the port: raw numbers, so that an operand outside its range can be
written down and is refused with BAD_VALUE by its owner (R10, R177). A request marked for one port only (R176) is
performed on that port; the same code arriving on the other port is a `writeFrame`. Requests marked for both ports name
their port. Events of one portal, car or port name it. -/

namespace Sys2Proof

/-- The two serial target ports (R171). -/
inductive Port where
  | office
  | field
  deriving DecidableEq, Repr

/-- One window of PUT_PROFILE as its operands travel: day-class set, open minute, close minute (R6, R18). -/
structure WindowOperand where
  classes : ClassSet
  openMinute : Nat
  closeMinute : Nat
  deriving DecidableEq, Repr

/-- The operands of PUT_CREDENTIAL (R16, R176): id, kind, status, then the optional fields in the order of R5's table.
A field is `some` when the presence operand names it; `reserved` is what the presence operand holds above its five
named bits. -/
structure CredentialOperands where
  id : Nat
  kind : Nat
  status : Nat
  tenancy : Option Nat
  expiry : Option Nat
  budget : Option Nat
  staffProfile : Option Nat
  staffZones : Option Set16
  reserved : Nat
  deriving DecidableEq, Repr

/-- The fields of PUT_PORTAL in the order of R8's table, each the number that travels: a position in its list of
values, or 0xFF for an absent free profile or interlock group (R20, R176, R177). -/
structure PortalOperands where
  enabled : Nat
  outer : Nat
  inner : Nat
  baseMode : Nat
  freeProfile : Nat
  unlockCount : Nat
  unlockBase : Nat
  heldLimit : Nat
  passback : Nat
  leafSensor : Nat
  beam : Nat
  exitButton : Nat
  egress : Nat
  polarity : Nat
  group : Nat
  fallback : Nat
  timeout : Nat
  deriving DecidableEq, Repr

/-- The fields of PUT_CAR in the order of R9's table; the zone list carries its own announced length, which the Store
judges against the landing count (R21, R176). -/
structure CarOperands where
  enabled : Nat
  landings : Nat
  zones : List Nat
  home : Nat
  mode : Nat
  passback : Nat
  window : Nat
  deriving DecidableEq, Repr

/-- The levels of the input pins that no row of the table gives: STORE_WP, VBAT, the straps, and for each interlock
line whether another device on it is seen pulling (R112, R117). A `tick` may carry new levels (log entry 14). -/
structure Straps where
  storeWp : Bool
  /-- VBAT holds what the clock domain needs (R30). VBAT_LOSS takes it away too. -/
  vbat : Bool
  firePolHigh : Bool
  oaddr1 : Bool
  oaddr0 : Bool
  faddr1 : Bool
  faddr0 : Bool
  ilOther : Vector Bool 4
  deriving DecidableEq, Repr

/-- The commands of the part. -/
inductive Instr where
  /-- POWER_ON: main power is applied (R26, R30). -/
  | powerOn
  /-- MAIN_POWER_LOSS: main power fails (R26, R30). -/
  | mainPowerLoss
  /-- VBAT_LOSS: VBAT falls below what the clock domain needs (R30). -/
  | vbatLoss
  /-- RESET_ASSERT: RESET_N is asserted (R26). -/
  | resetAssert
  /-- RESET_NEGATE: RESET_N is negated (R26). -/
  | resetNegate
  /-- RESTORE_COMPLETE: restore ends (R27). -/
  | restoreComplete
  /-- MINUTE_BOUNDARY: the second passes 59 (R28, R34). -/
  | minuteBoundary
  /-- PRESENT (R41). -/
  | present (reader id : Nat)
  /-- WITHDRAW (R144). -/
  | withdraw (ticket : Nat)
  /-- TAKE_OUTCOME (R145). -/
  | takeOutcome (ticket : Nat)
  /-- CAR_ARRIVAL (R123). -/
  | carArrival (car landing : Nat)
  /-- PUT_UNIT (R12). -/
  | putUnit (unit zone state : Nat)
  /-- PUT_TENANCY (R13). -/
  | putTenancy (tenancy state profile : Nat) (units : List Nat)
  /-- DROP_TENANCY (R15). -/
  | dropTenancy (tenancy : Nat)
  /-- PUT_CREDENTIAL (R16). -/
  | putCredential (o : CredentialOperands)
  /-- DROP_CREDENTIAL (R17). -/
  | dropCredential (id : Nat)
  /-- PUT_PROFILE (R18). -/
  | putProfile (profile : Nat) (windows : List WindowOperand) (common : Set16) (grace : Nat)
  /-- PUT_HOLIDAYS (R19). -/
  | putHolidays (days : List Nat)
  /-- PUT_PORTAL (R20). -/
  | putPortal (portal : Nat) (o : PortalOperands)
  /-- PUT_CAR (R21). -/
  | putCar (car : Nat) (o : CarOperands)
  /-- PUT_SITE (R22). -/
  | putSite (limit : Nat)
  /-- SLOT_VERIFIED: a slot programming attempt ends; `agrees` says whether the read-back verified (R11). -/
  | slotVerified (agrees : Bool)
  /-- BUDGET_WRITE_BACK (R23). -/
  | budgetWriteBack
  /-- SET_CLOCK (R32). -/
  | setClock (day minute second : Nat)
  /-- HOLD_MODE (R104). -/
  | holdMode (portal mode : Nat)
  /-- RELEASE_HOLD (R105). -/
  | releaseHold (portal : Nat)
  /-- ANSWER_REFERRAL (R139). -/
  | answerReferral (ticket id verdict : Nat)
  /-- LIST_REFERRALS (R146). -/
  | listReferrals
  /-- TAKE_JOURNAL (R163). -/
  | takeJournal (n : Nat)
  /-- READ_ROSTER (R78). -/
  | readRoster (start : Nat)
  /-- DROP_ROSTER_ENTRY (R79). -/
  | dropRosterEntry (id : Nat)
  /-- CLEAR_ROSTER (R80). -/
  | clearRoster
  /-- READ_RECORD (R25). -/
  | readRecord (port : Port) (kind key : Nat)
  /-- READ_PORTAL (R107). -/
  | readPortal (port : Port) (portal : Nat)
  /-- READ_CAR (R133). -/
  | readCar (port : Port) (car : Nat)
  /-- READ_STATUS (R169). -/
  | readStatus (port : Port)
  /-- READ_EVENTS (R168). -/
  | readEvents (port : Port)
  /-- CLEAR_EVENTS (R168). -/
  | clearEvents (port : Port) (flags : Set16)
  /-- SET_EVENT_MASK (R167). -/
  | setEventMask (port : Port) (mask : Set16)
  /-- WRITE_FRAME: a write frame of these bytes, after the address byte, ends on the port (R173). -/
  | writeFrame (port : Port) (bytes : List Byte)
  /-- READ_FRAME: a read frame; the master clocks out `count` bytes, and `ended` says whether it has ended the frame
  (R175). -/
  | readFrame (port : Port) (count : Nat) (ended : Bool)
  /-- FRAME_TIMEOUT (R172). -/
  | frameTimeout (port : Port)
  /-- LEAF_LINE_CHANGE: LEAF of the portal goes to asserted (open) or negated (R85). -/
  | leafLineChange (portal : Fin 16) (asserted : Bool)
  /-- LEAF_OPEN_RECOGNIZED (R90). -/
  | leafOpenRecognized (portal : Fin 16)
  /-- LEAF_CLOSED_RECOGNIZED (R93). -/
  | leafClosedRecognized (portal : Fin 16)
  /-- EXIT_LINE_CHANGE: EXIT of the portal goes to asserted (pressed) or negated (R85). -/
  | exitLineChange (portal : Fin 16) (asserted : Bool)
  /-- EXIT_PRESS: the exit button is recognized PRESSED (R98). -/
  | exitPress (portal : Fin 16)
  /-- EXIT_RELEASE_RECOGNIZED (R85). -/
  | exitReleaseRecognized (portal : Fin 16)
  /-- UNLOCK_EXPIRY (R88, R89). -/
  | unlockExpiry (portal : Fin 16)
  /-- HELD_TIMER_EXPIRY (R92). -/
  | heldTimerExpiry (portal : Fin 16)
  /-- BEAM_BREAK (R96). -/
  | beamBreak (portal : Fin 16)
  /-- BEAM_CLEAR (R96). -/
  | beamClear (portal : Fin 16)
  /-- QUALIFYING_INTERRUPTION (R97). -/
  | qualifyingInterruption (portal : Fin 16)
  /-- BEAM_REARM_EXPIRY (R96). -/
  | beamRearmExpiry (portal : Fin 16)
  /-- REFERRAL_DEADLINE of the entry holding the ticket (R141). -/
  | referralDeadline (ticket : Nat)
  /-- SESSION_TIMER_EXPIRY (R127). -/
  | sessionTimerExpiry (car : Fin 4)
  /-- FIRE_IN_CHANGE: FIRE_IN goes high or low (R150). -/
  | fireInChange (high : Bool)
  /-- FIRE_ONSET (R151). -/
  | fireOnset
  /-- FIRE_CLEAR (R153). -/
  | fireClear
  /-- FIRE_CLEAR_RECOMPUTATION of one portal (R153). -/
  | fireClearRecomputation (portal : Fin 16)
  /-- TAMPER_LINE_CHANGE (R155). -/
  | tamperLineChange (asserted : Bool)
  /-- TAMPER_LATCH_SET (R155). -/
  | tamperLatchSet
  /-- TICK: one 10 ms tick; it may carry new levels of the pins that no other row changes (R28). -/
  | tick (straps : Option Straps)
  /-- FRAME_START: a start condition with a 7-bit address in the write direction (R171, R172). -/
  | frameStart (port : Port) (address : Nat)
  /-- DISCARDING_END: a stop or start condition ends DISCARDING (R172). -/
  | discardingEnd (port : Port)
  deriving DecidableEq, Repr

end Sys2Proof
end

