-- ==== Sys2Proof/Decode.lean ====
section
/-! DEFINITION. Decode: the part is a block and fetches no instruction; no row of the table of operations gives bits, so
no word spells a command. How a request travels as bytes stands in Machine/Frames.lean. -/

namespace Sys2Proof

/-- The command that a word spells by the table's bits: none, because no row gives bits. -/
def decodeTableWord (_nbits _w : Nat) : Option Instr := none

end Sys2Proof
end

