-- ==== Sys2Proof/Config.lean ====
section
/-! DEFINITION. Config: the sizes and durations the manual fixes, and the values it leaves free. -/

namespace Sys2Proof.Config

/-- Records in the journal ring (R159). -/
def journalCapacity : Nat := 512

/-- Journal records at which JOURNAL_HALF is raised (R162). -/
def journalHalf : Nat := 256

/-- Credential records the table holds (R5). -/
def credentialCapacity : Nat := 2048

/-- Credentials that may name one tenancy (R5, R16). -/
def credentialsPerTenancy : Nat := 8

/-- Places of the referral queue (R135). -/
def referralCapacity : Nat := 8

/-- Passengers of one car (R122). -/
def carCapacity : Nat := 8

/-- Grants of one cycle (R55, R91). -/
def grantCapacity : Nat := 15

/-- Bytes of the frame buffer (R172). -/
def frameBufferCapacity : Nat := 63

/-- Operand bytes of one frame (R173). -/
def operandCapacity : Nat := 60

/-- Debounce of LEAF and EXIT, in ticks (R85). -/
def debounceTicks : Nat := 5

/-- The two spans of the beam filter, in ticks (R96). -/
def beamTicks : Nat := 12

/-- The fire filter, in ticks (R150). -/
def fireTicks : Nat := 20

/-- The tamper filter, in ticks (R155). -/
def tamperTicks : Nat := 10

/-- Ticks after the acknowledgement at which a frame timer expires (R172). -/
def frameTicks : Nat := 3

/-- Ticks in one second (R28). -/
def ticksPerSecond : Nat := 100

/-- What a slot holds after its programming was cut short by a power failure or a reset. -/
inductive InterruptedSlot where
  /-- its check does not agree with its content -/
  | invalid
  /-- it still holds what it held before the attempt -/
  | old
  /-- it holds what the attempt was writing -/
  | new
  deriving DecidableEq, Repr, Inhabited

/-- FREE VALUE (log entry 1). The manual says only that a slot being programmed when power fails or RESET_N is asserted
`may be left INVALID` (R1, R26); what it holds is this constant, which has no body, at the state's free-value count. -/
opaque interruptedSlot : Nat → InterruptedSlot

/-- FREE VALUE (log entry 30). R107, R133 and R146 give the ticks that remain of a running timer as 1 or more and do not
say what a read reports that is taken at the timer's own tick before its expiry; what it reports is this constant, which
has no body, at that tick, brought into the range of the rule. -/
opaque ticksLeftAtExpiry : Nat → Nat

end Sys2Proof.Config
end

