-- ==== Sys2Proof/Machine/State.lean ====
section
/-! DEFINITION. State: the records, the blocks and the whole state of the part as plain data, and `State.reset`, the part
right after power-on. Outputs of the part (strike lines, interlock drives, ALARM, OATTN, FATTN) are held in `outs`; the
inputs it samples are held in `pins`. -/

namespace Sys2Proof.Machine

/-! ## Outcomes -/

/-- Faults. The manual gives every step of the part an effect or no effect, and nothing in it stops the part: the type
has no constructor, so no command can fault. -/
inductive Fault where
  deriving DecidableEq, Repr

/-- Refusals. -/
inductive Refusal where
  /-- Raised by an arm of `exec` whose command has no meaning in the model yet (safe: the model stops). No arm raises
  it now. -/
  | notModelled (mnemonic : String)
  deriving DecidableEq, Repr

/-! ## Sparse tables -/

/-- A table of records by number, in one canonical form: numbers strictly rising, and a number that is not listed has no
record. -/
structure Table (α : Type) where
  entries : List (Nat × α)
  deriving DecidableEq, Repr

/-! ## The records of the Tenancy Store -/

/-- Unit states in the order of R3's table. -/
inductive UnitState where
  | vacant
  | rented
  | overlocked
  | auctionHold
  | maintenance
  deriving DecidableEq, Repr

/-- A unit record, under its unit number (R3). `rented` is the manual's LET. -/
structure UnitRec where
  zone : Nat
  state : UnitState
  tenancy : Option Nat
  deriving DecidableEq, Repr

/-- Tenancy states in the order of R4's table. -/
inductive TenancyState where
  | active
  | grace
  | lockedOut
  | closed
  deriving DecidableEq, Repr

/-- A tenancy record, under its tenancy number (R4). -/
structure TenancyRec where
  state : TenancyState
  profile : Nat
  units : List Nat
  deriving DecidableEq, Repr

/-- Credential kinds (R5). -/
inductive CredKind where
  | principal
  | delegate
  | staff
  deriving DecidableEq, Repr

/-- Credential statuses (R5). -/
inductive CredStatus where
  | valid
  | suspended
  deriving DecidableEq, Repr

/-- A credential record, under its id (R5). -/
structure CredRec where
  kind : CredKind
  status : CredStatus
  tenancy : Option Nat
  expiry : Option Nat
  budget : Option Nat
  staffProfile : Option Nat
  staffZones : Option Set16
  deriving DecidableEq, Repr

/-- One window of a profile (R6). -/
structure Window where
  classes : ClassSet
  openMinute : Nat
  closeMinute : Nat
  deriving DecidableEq, Repr

/-- An access profile (R6). -/
structure ProfileRec where
  windows : List Window
  common : Set16
  grace : Nat
  deriving DecidableEq, Repr

/-- Base modes of a portal (R8). -/
inductive BaseMode where
  | normal
  | referral
  | locked
  deriving DecidableEq, Repr

/-- Unlock bases (R8). -/
inductive UnlockBase where
  | ms100
  | s1
  deriving DecidableEq, Repr

/-- Passback rules (R8, R9). -/
inductive Passback where
  | none
  | soft
  | hard
  deriving DecidableEq, Repr

/-- Strike polarities (R8). -/
inductive Polarity where
  | releaseHigh
  | releaseLow
  deriving DecidableEq, Repr

/-- Referral fallbacks (R8). -/
inductive Fallback where
  | grant
  | deny
  deriving DecidableEq, Repr

/-- A portal record (R8). -/
structure PortalRec where
  enabled : Bool
  outer : Nat
  inner : Nat
  baseMode : BaseMode
  freeProfile : Option Nat
  unlockCount : Nat
  unlockBase : UnlockBase
  heldLimit : Nat
  passback : Passback
  leafSensor : Bool
  beam : Bool
  exitButton : Bool
  egress : Bool
  polarity : Polarity
  group : Option (Fin 4)
  fallback : Fallback
  timeout : Nat
  deriving DecidableEq, Repr

/-- Car modes (R9). -/
inductive CarMode where
  | normal
  | locked
  deriving DecidableEq, Repr

/-- A car record (R9). -/
structure CarRec where
  enabled : Bool
  landings : Nat
  zones : List Nat
  home : Nat
  mode : CarMode
  passback : Passback
  window : Nat
  deriving DecidableEq, Repr

/-- The default portal record (R8). -/
def PortalRec.initial : PortalRec where
  enabled := false
  outer := 0
  inner := 1
  baseMode := .normal
  freeProfile := Option.none
  unlockCount := 50
  unlockBase := .ms100
  heldLimit := 0
  passback := .none
  leafSensor := false
  beam := false
  exitButton := false
  egress := false
  polarity := .releaseHigh
  group := Option.none
  fallback := .deny
  timeout := 20

/-- The default car record (R9). -/
def CarRec.initial : CarRec where
  enabled := false
  landings := 1
  zones := [1]
  home := 0
  mode := .normal
  passback := .none
  window := 30

/-- The default profile (R6). -/
def ProfileRec.initial : ProfileRec where
  windows := []
  common := 0
  grace := 0

/-- Profile 15, fixed in the part (R6). -/
def ProfileRec.fixed15 : ProfileRec where
  windows := [{ classes := 0xFF, openMinute := 0, closeMinute := 1440 }]
  common := 0xFFFE
  grace := 0

/-- The default site limit (R7). -/
def siteLimitInitial : Nat := 256

/-! ## Slots, mirror and Store -/

/-- A slot that has been written: VALID with its record, or INVALID. A slot that is not listed is EMPTY (R1). -/
inductive Slot (α : Type) where
  | valid (record : α)
  | invalid
  deriving DecidableEq, Repr

/-- What a credential slot holds: one record, of any id (R1). -/
structure CredSlot where
  id : Nat
  record : CredRec
  deriving DecidableEq, Repr

/-- The 7,205 non-volatile slots, group by group (R1). -/
structure Slots where
  units : Table (Slot UnitRec)
  tenancies : Table (Slot TenancyRec)
  credentials : Table (Slot CredSlot)
  profiles : Table (Slot ProfileRec)
  holidays : Option (Slot (List Nat))
  portals : Table (Slot PortalRec)
  cars : Table (Slot CarRec)
  site : Option (Slot Nat)
  deriving DecidableEq, Repr

/-- A credential of the mirror, with the number of the slot that holds it (R16, R26). -/
structure CredEntry where
  slot : Nat
  record : CredRec
  deriving DecidableEq, Repr

/-- The mirror: the volatile copy of the records (R2). Profiles 0 to 14 that are not listed are the default profile. -/
structure Mirror where
  units : Table UnitRec
  tenancies : Table TenancyRec
  credentials : Table CredEntry
  profiles : Table ProfileRec
  holidays : List Nat
  portals : Vector PortalRec 16
  cars : Vector CarRec 4
  siteLimit : Nat
  deriving DecidableEq, Repr

/-- One slot to be programmed, with the record to be written, or none where the slot is erased (R1). -/
inductive SlotWrite where
  | unit (n : Nat) (r : UnitRec)
  | tenancy (n : Nat) (r : Option TenancyRec)
  | credential (slot : Nat) (r : Option CredSlot)
  | profile (n : Nat) (r : ProfileRec)
  | holidays (days : List Nat)
  | portal (p : Fin 16) (r : PortalRec)
  | car (c : Fin 4) (r : CarRec)
  | site (limit : Nat)
  deriving DecidableEq, Repr

/-- What the Store is programming: a put or drop of the Office Port, or a credential's budget write-back (R2, R23). -/
inductive Task where
  | request
  | writeBack (id : Nat)
  deriving DecidableEq, Repr

/-- The programming in progress: its slots in order, how many have verified, and whether the current slot is in its
second attempt (R11). -/
structure Job where
  task : Task
  writes : List SlotWrite
  verified : Nat
  retry : Bool
  deriving DecidableEq, Repr

/-- Store states (R2). -/
inductive StorePhase where
  | restoring
  | ready
  | programming
  deriving DecidableEq, Repr

/-- The Tenancy Store. -/
structure Store where
  phase : StorePhase
  slots : Slots
  mirror : Mirror
  /-- the programming in progress -/
  job : Option Job
  /-- a put or drop that was taken while a write-back was programming, and waits for it (R10) -/
  waiting : Option (List SlotWrite)
  /-- credentials whose budget waits for write-back, oldest first (R23) -/
  marks : List Nat
  /-- duplicate credential slots noted by restore, each with its id, in ascending slot number (R26) -/
  duplicates : Table Nat
  deriving DecidableEq, Repr

/-! ## Site Clock -/

/-- The Site Clock (Section 2.1, R28, R30). -/
structure Clock where
  day : Nat
  minute : Nat
  second : Nat
  /-- clock state: true for VALID, false for UNSET -/
  valid : Bool
  /-- tick phase, 0 to 99 -/
  phase : Nat
  /-- tick count -/
  tick : Nat
  /-- retention mark intact -/
  mark : Bool
  /-- the tick that ends the minute has come and its minute boundary has not been taken yet -/
  boundaryDue : Bool
  deriving DecidableEq, Repr

/-! ## Decision outcomes -/

/-- Reasons (R43). -/
inductive Reason where
  | none
  | passbackCorrected
  | queueFallback
  | grace
  | portalReferral
  | portalDisabled
  | busy
  | portalLocked
  | unknown
  | suspended
  | expired
  | budget
  | tenancy
  | window
  | zone
  | pending
  | passback
  | full
  | interlock
  | queueFull
  deriving DecidableEq, Repr

/-- Outcomes of a presentation (R43). -/
inductive Decision where
  | grant
  | free
  | deny
  | refer
  deriving DecidableEq, Repr

/-! ## Roster -/

/-- A roster entry (R65). -/
structure RosterEntry where
  id : Nat
  tenancy : Option Nat
  zone : Nat
  day : Nat
  minute : Nat
  counter : Nat
  overstay : Bool
  muster : Bool
  car : Option (Fin 4)
  deriving DecidableEq, Repr

/-! ## Portal Controllers -/

/-- Leaf states in the order of R83's table. -/
inductive LeafState where
  | secure
  | released
  | opened
  | held
  | forced
  | free
  deriving DecidableEq, Repr

/-- Effective modes and holds (R83). -/
inductive Mode where
  | normal
  | referral
  | locked
  | free
  deriving DecidableEq, Repr

/-- Window and schedule verdicts (R36, R83). -/
inductive Verdict where
  | inWindow
  | outWindow
  deriving DecidableEq, Repr

/-- Recognized positions of the leaf (R83, R85). -/
inductive LeafPosition where
  | opened
  | closed
  | unknown
  | notSensed
  deriving DecidableEq, Repr

/-- Recognized positions of the exit button (R83, R85). -/
inductive ExitPosition where
  | pressed
  | released
  | unknown
  deriving DecidableEq, Repr

/-- The beam filter, with the expiry tick of its timer where one runs (R96). `stopped` while no beam is fitted. -/
inductive BeamFilter where
  | stopped
  | armed
  | timing (expiry : Nat)
  | counted
  | rearming (expiry : Nat)
  deriving DecidableEq, Repr

/-- A pending move (R57). -/
structure Move where
  id : Nat
  fromZone : Nat
  toZone : Nat
  arrival : Bool
  ticket : Option Nat
  deriving DecidableEq, Repr

/-- A running held timer: the tick it started at, and its expiry tick unless the held limit was 0 or it has expired
(R92). -/
structure HeldTimer where
  start : Nat
  expiry : Option Nat
  deriving DecidableEq, Repr

/-- A Portal Controller (R83). A timer is `none` while it is stopped and holds its expiry tick while it runs. -/
structure Portal where
  leaf : LeafState
  mode : Mode
  hold : Option Mode
  verdict : Verdict
  grants : Nat
  passages : Nat
  tailgate : Bool
  moves : List Move
  unlock : Option Nat
  held : Option HeldTimer
  position : LeafPosition
  leafDebounce : Option Nat
  exit : ExitPosition
  exitDebounce : Option Nat
  beam : BeamFilter
  /-- a fire clear has been handed to the controller and it has not recomputed its mode yet (R153) -/
  recompute : Bool
  deriving DecidableEq, Repr

/-- A Portal Controller that is stopped by reset (R109). -/
def Portal.stopped : Portal where
  leaf := .secure
  mode := .normal
  hold := Option.none
  verdict := .outWindow
  grants := 0
  passages := 0
  tailgate := false
  moves := []
  unlock := Option.none
  held := Option.none
  position := .notSensed
  leafDebounce := Option.none
  exit := .unknown
  exitDebounce := Option.none
  beam := .stopped
  recompute := false

/-! ## Car Units -/

/-- A passenger (R121). -/
structure Passenger where
  id : Nat
  landings : Set16
  deriving DecidableEq, Repr

/-- Session states (R121). -/
inductive Session where
  | closed
  | opened
  deriving DecidableEq, Repr

/-- A Car Unit (R121). -/
structure Car where
  landing : Option Nat
  session : Session
  timer : Option Nat
  passengers : List Passenger
  deriving DecidableEq, Repr

/-- A Car Unit after reset (R134). -/
def Car.stopped : Car where
  landing := Option.none
  session := .closed
  timer := Option.none
  passengers := []

/-! ## Referral Queue -/

/-- Outcomes of a referral entry, with the grant count of GRANTED and the deny reason of SUPERSEDED (R135). -/
inductive EntryOutcome where
  | granted (count : Nat)
  | denied
  | timedOut
  | superseded (reason : Reason)
  | freed
  | cancelled
  deriving DecidableEq, Repr

/-- States of a referral entry (R135). -/
inductive EntryState where
  | pending
  | resolved (outcome : EntryOutcome)
  deriving DecidableEq, Repr

/-- A referral entry (R135). -/
structure Referral where
  ticket : Nat
  reader : Nat
  id : Nat
  tenancy : Nat
  reason : Reason
  state : EntryState
  deadline : Nat
  deriving DecidableEq, Repr

/-! ## Fire and Tamper Unit -/

/-- The Fire and Tamper Unit (Chapter 9). Its states are Booleans: `active` for ACTIVE, `latch` for set. -/
structure Fire where
  active : Bool
  filter : Option Nat
  /-- the active level of FIRE_IN, as sampled from FIRE_POL: true for high (R150) -/
  activeHigh : Bool
  latch : Bool
  tamperFilter : Option Nat
  deriving DecidableEq, Repr

/-! ## Journal -/

/-- Journal record kinds, in the order of R160's table. -/
inductive Kind where
  | start
  | decision
  | notUsed
  | forced
  | forcedCleared
  | held
  | heldCleared
  | tailgate
  | exitButton
  | exitBlocked
  | mode
  | overstay
  | rosterDropped
  | referred
  | referralOutcome
  | carTimeout
  | fireOn
  | fireOff
  | tamper
  | clockSet
  | storeFault
  deriving DecidableEq, Repr

/-- What the outcome field of a journal record can carry (R160, R180). -/
inductive JournalOutcome where
  | decision (d : Decision)
  | entry (o : EntryOutcome)
  | withdrawn
  | mode (m : Mode)
  deriving DecidableEq, Repr

/-- A journal record (R160). -/
structure Record where
  kind : Kind
  day : Nat
  minute : Nat
  second : Nat
  gap : Bool
  subject : Option Nat
  id : Option Nat
  outcome : Option JournalOutcome
  reason : Option Reason
  count : Option Nat
  secondCount : Option Nat
  ticket : Option Nat
  deriving DecidableEq, Repr

/-! ## Ports and attention -/

/-- Event flags (R165). -/
inductive Flag where
  | referralWaiting
  | journalHalf
  | journalGap
  | overstay
  | forced
  | held
  | tailgate
  | fire
  | tamper
  | storeFault
  | check
  | frameTimeout
  | outcomeReady
  | modeChange
  deriving DecidableEq, Repr

/-- Result codes (R177). -/
inductive ResultCode where
  | ok
  | check
  | unknownRequest
  | badLength
  | badValue
  | notPermitted
  | writeProtected
  | full
  | inUse
  | notFound
  | conflict
  | late
  | unknownTicket
  | storeFault
  deriving DecidableEq, Repr

/-- A reply: its result code and its reply bytes (R175). -/
structure Reply where
  result : ResultCode
  bytes : List Byte
  deriving DecidableEq, Repr

/-- Frame states (Chapter 11). -/
inductive FrameState where
  | idle
  | write
  | read
  | discarding
  deriving DecidableEq, Repr

/-- The state of one port (Chapter 11) with its event flags and mask (R165, R167). -/
structure PortState where
  address : Nat
  frame : FrameState
  buffer : List Byte
  timer : Option Nat
  busy : Bool
  reply : Option Reply
  /-- the bytes the port drove onto its data line in its last read frame; the model's own, so that a read has a visible
  effect (log entry 2) -/
  sent : List Byte
  flags : Set16
  mask : Set16
  deriving DecidableEq, Repr

/-- A port after reset, with its sampled address (R170, R178). -/
def PortState.stopped (address : Nat) : PortState where
  address := address
  frame := .idle
  buffer := []
  timer := Option.none
  busy := false
  reply := Option.none
  sent := []
  flags := 0
  mask := 0

/-! ## Pins and power -/

/-- Levels of the input pins. True means asserted, or high for the straps and FIRE_IN (Section 11.8). -/
structure Pins where
  leaf : Vector Bool 16
  exit : Vector Bool 16
  beam : Vector Bool 16
  fireHigh : Bool
  tamper : Bool
  straps : Straps
  deriving DecidableEq, Repr

/-- Levels of a strike line (R84). -/
inductive StrikeLevel where
  | high
  | low
  | undriven
  deriving DecidableEq, Repr

/-- The output pins: strike lines, own drive of each interlock line (true for PULLING), ALARM, OATTN and FATTN
(R84, R111, R157, R167). -/
structure Outputs where
  strike : Vector StrikeLevel 16
  pulling : Vector Bool 4
  alarm : Bool
  oattn : Bool
  fattn : Bool
  deriving DecidableEq, Repr

/-- Main power and RESET_N (R26). -/
structure Power where
  main : Bool
  resetAsserted : Bool
  deriving DecidableEq, Repr

/-! ## The whole part -/

/-- The state of the part, with the queue of the commands that wait. -/
structure State where
  pending : List Instr
  power : Power
  pins : Pins
  clock : Clock
  store : Store
  roster : List RosterEntry
  portals : Vector Portal 16
  cars : Vector Car 4
  referrals : List Referral
  ticketCounter : Nat
  fire : Fire
  journal : List Record
  office : PortState
  field : PortState
  outs : Outputs
  /-- how many free values have been used: the argument of the next one (log entry 1) -/
  freeCount : Nat
  deriving DecidableEq, Repr

/-! ## Reset -/

/-- Slots of a part that has never been programmed: all EMPTY (R1). -/
def Slots.empty : Slots where
  units := ⟨[]⟩
  tenancies := ⟨[]⟩
  credentials := ⟨[]⟩
  profiles := ⟨[]⟩
  holidays := Option.none
  portals := ⟨[]⟩
  cars := ⟨[]⟩
  site := Option.none

/-- The mirror of a part whose slots are all EMPTY, which also stands while no mirror is held (R2, R26). -/
def Mirror.empty : Mirror where
  units := ⟨[]⟩
  tenancies := ⟨[]⟩
  credentials := ⟨[]⟩
  profiles := ⟨[]⟩
  holidays := []
  portals := Vector.replicate 16 PortalRec.initial
  cars := Vector.replicate 4 CarRec.initial
  siteLimit := siteLimitInitial

/-- Outputs while the part is not running: strikes undriven, no line pulled, ALARM and both attention lines negated
(R84, R120, R157, R170). -/
def Outputs.stopped : Outputs where
  strike := Vector.replicate 16 .undriven
  pulling := Vector.replicate 4 false
  alarm := false
  oattn := false
  fattn := false

/-- Input levels at reset: a closed building at rest, FIRE_POL high and FIRE_IN low, every other line negated and every
other strap low (log entry 3). -/
def Pins.atRest : Pins where
  leaf := Vector.replicate 16 false
  exit := Vector.replicate 16 false
  beam := Vector.replicate 16 false
  fireHigh := false
  tamper := false
  straps :=
    { storeWp := false, vbat := true, firePolHigh := true, oaddr1 := false, oaddr0 := false, faddr1 := false, faddr0 := false,
      ilOther := Vector.replicate 4 false }

/-- The part right after power-on of a part never programmed and whose clock domain had no power: the Store is
RESTORING, the clock stands at day 0, 00:00:00, UNSET, and every block is stopped (R26, R30, log entry 4). -/
def State.reset : State where
  pending := []
  power := { main := true, resetAsserted := false }
  pins := Pins.atRest
  clock :=
    { day := 0, minute := 0, second := 0, valid := false, phase := 0, tick := 0, mark := true, boundaryDue := false }
  store :=
    { phase := .restoring, slots := Slots.empty, mirror := Mirror.empty, job := Option.none, waiting := Option.none,
      marks := [], duplicates := ⟨[]⟩ }
  roster := []
  portals := Vector.replicate 16 Portal.stopped
  cars := Vector.replicate 4 Car.stopped
  referrals := []
  ticketCounter := 1
  fire := { active := false, filter := Option.none, activeHigh := true, latch := false, tamperFilter := Option.none }
  journal := []
  office := PortState.stopped 0x5C
  field := PortState.stopped 0x64
  outs := Outputs.stopped
  freeCount := 0

end Sys2Proof.Machine
end

