-- ==== Sys2Proof/Machine/Flags.lean ====
section
/-! DEFINITION. Flags: the codes of the event flags, which port has which, and when an attention line is asserted
(R165 to R167). -/

namespace Sys2Proof.Machine

/-- Code of an event flag (R165). -/
def Flag.code : Flag → Nat
  | .referralWaiting => 0
  | .journalHalf => 1
  | .journalGap => 2
  | .overstay => 3
  | .forced => 4
  | .held => 5
  | .tailgate => 6
  | .fire => 7
  | .tamper => 8
  | .storeFault => 9
  | .check => 10
  | .frameTimeout => 11
  | .outcomeReady => 12
  | .modeChange => 13

/-- The set that holds one flag alone. -/
def Flag.bit (f : Flag) : Set16 := 1#16 <<< f.code

/-- The flags each port has: codes 0 to 11 on the Office Port, 4 to 8 and 10 to 13 on the Field Port (R165). -/
def portFlags : Port → Set16
  | .office => 0x0FFF
  | .field => 0x3DF0

/-- A set names only flags of the port (R167, R168). -/
def flagsAllowed (p : Port) (set : Set16) : Bool := set &&& ~~~(portFlags p) == 0

/-- An attention line is asserted while a flag is set and not masked (R167). -/
def attention (p : PortState) : Bool := p.flags &&& ~~~p.mask != 0

end Sys2Proof.Machine
end

