-- ==== Sys2Proof/Machine/Ops.lean ====
section
/-! DEFINITION. Ops: the named operations over the state that every block uses: tables, ports, flags, replies, the
journal, and access to one portal or car. -/

namespace Sys2Proof.Machine

/-! ## Tables -/

/-- The record listed under a number. -/
def findEntry {α : Type} : List (Nat × α) → Nat → Option α
  | [], _ => none
  | (k, x) :: rest, n => if k = n then some x else findEntry rest n

/-- Put a record under a number, keeping the numbers rising. -/
def putEntry {α : Type} : List (Nat × α) → Nat → α → List (Nat × α)
  | [], n, y => [(n, y)]
  | (k, x) :: rest, n, y =>
    if n < k then (n, y) :: (k, x) :: rest
    else if n = k then (n, y) :: rest
    else (k, x) :: putEntry rest n y

/-- The numbers of a list of entries rise strictly, from above a bound. -/
def risingFrom {α : Type} : Option Nat → List (Nat × α) → Bool
  | _, [] => true
  | none, (k, _) :: rest => risingFrom (some k) rest
  | some b, (k, _) :: rest => decide (b < k) && risingFrom (some k) rest

/-- The canonical form of a table: numbers strictly rising. -/
def Table.wf {α : Type} (t : Table α) : Bool := risingFrom none t.entries

/-- The record of a number, if there is one. -/
def Table.find? {α : Type} (t : Table α) (n : Nat) : Option α := findEntry t.entries n

/-- The table with a record put under a number. -/
def Table.put {α : Type} (t : Table α) (n : Nat) (x : α) : Table α := ⟨putEntry t.entries n x⟩

/-- The table without a number. -/
def Table.erase {α : Type} (t : Table α) (n : Nat) : Table α := ⟨t.entries.filter (fun e => e.1 != n)⟩

/-- The table with a number given or taken away. -/
def Table.set {α : Type} (t : Table α) (n : Nat) (x : Option α) : Table α :=
  match x with
  | some y => t.put n y
  | none => t.erase n

/-- How many entries a table has. -/
def Table.size {α : Type} (t : Table α) : Nat := t.entries.length

/-! ## Lists -/

/-- The first of a list of answers that is given. -/
def firstSome {α : Type} : List (Option α) → Option α
  | [] => none
  | some x :: _ => some x
  | none :: rest => firstSome rest

/-- Insert a number into a rising list. -/
def insertRising (n : Nat) : List Nat → List Nat
  | [] => [n]
  | k :: rest => if n ≤ k then n :: k :: rest else k :: insertRising n rest

/-- A list of numbers in ascending order. -/
def sortRising (l : List Nat) : List Nat := l.foldr insertRising []

/-- No number stands twice in a list. -/
def distinct : List Nat → Bool
  | [] => true
  | n :: rest => !rest.contains n && distinct rest

/-! ## Portals, cars and groups by number -/

/-- The sixteen portals in ascending number. -/
def allPortals : List (Fin 16) := [0, 1, 2, 3, 4, 5, 6, 7, 8, 9, 10, 11, 12, 13, 14, 15]

/-- The four cars in ascending number. -/
def allCars : List (Fin 4) := [0, 1, 2, 3]

/-- The portal of a number in 0 to 15. -/
def portal? (n : Nat) : Option (Fin 16) := if h : n < 16 then some ⟨n, h⟩ else none

/-- The car, or the group, of a number in 0 to 3. -/
def car? (n : Nat) : Option (Fin 4) := if h : n < 4 then some ⟨n, h⟩ else none

/-- Change one Portal Controller. -/
def State.modPortal (s : State) (p : Fin 16) (f : Portal → Portal) : State :=
  { s with portals := s.portals.set p (f s.portals[p]) }

/-- Change one Car Unit. -/
def State.modCar (s : State) (c : Fin 4) (f : Car → Car) : State :=
  { s with cars := s.cars.set c (f s.cars[c]) }

/-- The portal record in the mirror (R2, R8). -/
def State.portalRec (s : State) (p : Fin 16) : PortalRec := s.store.mirror.portals[p]

/-- The car record in the mirror (R2, R9). -/
def State.carRec (s : State) (c : Fin 4) : CarRec := s.store.mirror.cars[c]

/-- Change the mirror. -/
def State.modMirror (s : State) (f : Mirror → Mirror) : State :=
  { s with store := { s.store with mirror := f s.store.mirror } }

/-! ## Running -/

/-- Restore has completed and the part has power and no reset: the blocks take events (R26, R27). -/
def State.running (s : State) : Bool :=
  s.power.main && !s.power.resetAsserted && s.store.phase != .restoring

/-- An action of a block that acts only while the part runs. -/
def whenRunning (s : State) (act : State → State) : State := if s.running then act s else s

/-- A timer stands at the current tick (R29). -/
def State.due (s : State) (timer : Option Nat) : Bool := timer == some s.clock.tick

/-- The expiry tick of a timer of `n` ticks started now (R29). -/
def State.after (s : State) (n : Nat) : Nat := s.clock.tick + n

/-- The ticks that a read reports of a running timer: those until its expiry tick, from 1 to the most its rule gives
(R107, R133, R146). A read taken at the expiry tick before the expiry reports a FREE VALUE of that range (log entry
30). -/
def ticksLeft (most now expiry : Nat) : Nat :=
  if now < expiry then expiry - now else 1 + Config.ticksLeftAtExpiry expiry % most

/-! ## Ports -/

/-- The state of a port. -/
def State.port (s : State) : Port → PortState
  | .office => s.office
  | .field => s.field

/-- Change the state of a port. -/
def State.modPort (s : State) (p : Port) (f : PortState → PortState) : State :=
  match p with
  | .office => { s with office := f s.office }
  | .field => { s with field := f s.field }

/-- A port acknowledges its own address: the part runs and the port is free (R171). -/
def State.acknowledges (s : State) (p : Port) : Bool := s.running && !(s.port p).busy

/-- Raise an event flag on a port (R166). -/
def State.raise (s : State) (p : Port) (f : Flag) : State :=
  s.modPort p (fun q => { q with flags := q.flags ||| f.bit })

/-- Raise an event flag on both ports (R165). -/
def State.raiseBoth (s : State) (f : Flag) : State := (s.raise .office f).raise .field f

/-- Hold a reply on a port (R174). -/
def State.holdReply (s : State) (p : Port) (r : Reply) : State := s.modPort p (fun q => { q with reply := some r })

/-- The end of the write frame in progress: the frame timer stops and the port is IDLE with no frame in its buffer
(R172, R173). -/
def State.endFrame (s : State) (p : Port) : State :=
  s.modPort p (fun q => { q with frame := .idle, buffer := [], timer := none })

/-- A refusal: a result code and no reply bytes (R173, R177). -/
def Reply.refusal (r : ResultCode) : Reply := ⟨r, []⟩

/-- The reply OK with its items (R177). -/
def Reply.done (bytes : List Byte) : Reply := ⟨.ok, bytes⟩

/-- Perform a request on a port: if the port does not acknowledge its address nothing happens (R171), otherwise the
write frame ends (R173), the owner acts, and the port holds the owner's reply (R174). The frame need not have been
opened by FRAME_START: see log entry 11. -/
def request (p : Port) (s : State) (owner : State → State × Reply) : State :=
  if s.acknowledges p then
    let (t, r) := owner (s.endFrame p)
    t.holdReply p r
  else s

/-! ## Journal -/

/-- A record of a kind with the present site time and no other field (R159, R160). -/
def State.blankRecord (s : State) (k : Kind) : Record where
  kind := k
  day := s.clock.day
  minute := s.clock.minute
  second := s.clock.second
  gap := false
  subject := none
  id := none
  outcome := none
  reason := none
  count := none
  secondCount := none
  ticket := none

/-- Set the gap mark of the oldest record (R161). -/
def markGap : List Record → List Record
  | [] => []
  | r :: rest => { r with gap := true } :: rest

/-- Append a record: a full list first loses its oldest record and marks the next, with JOURNAL_GAP; a list that
reaches 256 raises JOURNAL_HALF (R159, R161, R162). -/
def State.append (s : State) (r : Record) : State :=
  if s.journal.length < Config.journalCapacity then
    let t := { s with journal := s.journal ++ [r] }
    if s.journal.length + 1 = Config.journalHalf then t.raise .office .journalHalf else t
  else
    { s with journal := markGap (s.journal.drop 1) ++ [r] }.raise .office .journalGap

/-- Append a record with a subject and a count. -/
def State.note (s : State) (k : Kind) (subject : Option Nat) (count : Option Nat) : State :=
  s.append { s.blankRecord k with subject := subject, count := count }

/-- A duration in whole seconds, saturating at 65,535 (R93, R107). -/
def wholeSeconds (ticks : Nat) : Nat := min (ticks / Config.ticksPerSecond) 65535

end Sys2Proof.Machine
end

