-- ==== Sys2Proof/Machine/Operands.lean ====
section
/-! DEFINITION. Operands: every operand form of the requests and of the replies. Numbers travel most significant byte
first, named values as their position in the list their table gives (R176, R177), with the codes that R43, R165, R177
and R180 assign. -/

namespace Sys2Proof.Machine

/-! ## Bytes -/

/-- A number in one byte. -/
def byte1 (n : Nat) : List Byte := [BitVec.ofNat 8 n]

/-- A number in two bytes, most significant first. -/
def byte2 (n : Nat) : List Byte := [BitVec.ofNat 8 (n / 256), BitVec.ofNat 8 n]

/-- A number in four bytes, most significant first. -/
def byte4 (n : Nat) : List Byte :=
  [BitVec.ofNat 8 (n / 16777216), BitVec.ofNat 8 (n / 65536), BitVec.ofNat 8 (n / 256), BitVec.ofNat 8 n]

/-- The number that bytes spell, most significant first. -/
def fromBytes (l : List Byte) : Nat := l.foldl (fun n b => n * 256 + b.toNat) 0

/-- A set of zones, landings or flags in two bytes (R177). -/
def bytesOfSet (x : Set16) : List Byte := byte2 x.toNat

/-- A list of two-byte numbers. -/
def byte2s (l : List Nat) : List Byte := l.flatMap byte2

/-- A list of one-byte numbers. -/
def byte1s (l : List Nat) : List Byte := l.flatMap byte1

/-- An optional item of one byte: 0xFF when absent (R177). -/
def optByte1 (x : Option Nat) : List Byte := byte1 (x.getD 0xFF)

/-- An optional item of two bytes: 0xFFFF when absent (R177). -/
def optByte2 (x : Option Nat) : List Byte := byte2 (x.getD 0xFFFF)

/-- A presence byte: one bit for each optional field in order, the first at weight 1 (R25, R176). -/
def presenceOf : List Bool → Nat
  | [] => 0
  | b :: rest => b.toNat + 2 * presenceOf rest

/-- A number lies in a range, ends included. -/
def inRange (n lo hi : Nat) : Bool := decide (lo ≤ n) && decide (n ≤ hi)

/-- A credential id: 1 to 4,294,967,294 (R5). -/
def idInRange (n : Nat) : Bool := inRange n 1 4294967294

/-! ## Codes of named values -/

/-- Result codes (R177). -/
def ResultCode.code : ResultCode → Nat
  | .ok => 0x00
  | .check => 0x01
  | .unknownRequest => 0x02
  | .badLength => 0x03
  | .badValue => 0x04
  | .notPermitted => 0x05
  | .writeProtected => 0x06
  | .full => 0x07
  | .inUse => 0x08
  | .notFound => 0x09
  | .conflict => 0x0A
  | .late => 0x0B
  | .unknownTicket => 0x0C
  | .storeFault => 0x0D

/-- Outcome codes of a presentation (R43). -/
def Decision.code : Decision → Nat
  | .grant => 1
  | .free => 2
  | .deny => 3
  | .refer => 4

/-- Reason codes (R43). -/
def Reason.code : Reason → Nat
  | .none => 0
  | .passbackCorrected => 1
  | .queueFallback => 2
  | .grace => 3
  | .portalReferral => 4
  | .portalDisabled => 16
  | .busy => 17
  | .portalLocked => 18
  | .unknown => 19
  | .suspended => 20
  | .expired => 21
  | .budget => 22
  | .tenancy => 23
  | .window => 24
  | .zone => 25
  | .pending => 26
  | .passback => 27
  | .full => 28
  | .interlock => 29
  | .queueFull => 30

/-- Codes of a referral entry's outcome (R180). -/
def EntryOutcome.code : EntryOutcome → Nat
  | .granted _ => 17
  | .denied => 18
  | .timedOut => 19
  | .superseded _ => 20
  | .freed => 21
  | .cancelled => 22

/-- The grant count a referral outcome carries, with GRANTED alone (R135). -/
def EntryOutcome.count : EntryOutcome → Option Nat
  | .granted n => some n
  | _ => none

/-- The deny reason a referral outcome carries, with SUPERSEDED alone (R135). -/
def EntryOutcome.reason : EntryOutcome → Option Reason
  | .superseded r => some r
  | _ => none

/-- Code of the outcome WITHDRAWN (R180). -/
def withdrawnCode : Nat := 23

/-- Positions of the modes: NORMAL, REFERRAL, LOCKED, FREE (R83, R104). -/
def Mode.code : Mode → Nat
  | .normal => 0
  | .referral => 1
  | .locked => 2
  | .free => 3

/-- The mode at a position (R104). -/
def mode? : Nat → Option Mode
  | 0 => some .normal
  | 1 => some .referral
  | 2 => some .locked
  | 3 => some .free
  | _ => none

/-- Codes of the outcome byte of a journal record (R180). -/
def JournalOutcome.code : JournalOutcome → Nat
  | .decision d => d.code
  | .entry o => o.code
  | .withdrawn => withdrawnCode
  | .mode m => 33 + m.code

/-- Journal kind codes (R180). -/
def Kind.code : Kind → Nat
  | .start => 1
  | .decision => 2
  | .notUsed => 3
  | .forced => 4
  | .forcedCleared => 5
  | .held => 6
  | .heldCleared => 7
  | .tailgate => 8
  | .exitButton => 9
  | .exitBlocked => 10
  | .mode => 11
  | .overstay => 12
  | .rosterDropped => 13
  | .referred => 14
  | .referralOutcome => 15
  | .carTimeout => 16
  | .fireOn => 17
  | .fireOff => 18
  | .tamper => 19
  | .clockSet => 20
  | .storeFault => 21

/-- Position of a field whose values are yes, no (R8, R176); also of asserted, negated and of on, off. -/
def yesNoCode (b : Bool) : Nat := if b then 0 else 1

/-- The value at a position of the list yes, no (R8, R176). -/
def yesNo? : Nat → Option Bool
  | 0 => some true
  | 1 => some false
  | _ => none

/-- Position of a unit state (R3). -/
def UnitState.code : UnitState → Nat
  | .vacant => 0
  | .rented => 1
  | .overlocked => 2
  | .auctionHold => 3
  | .maintenance => 4

/-- The unit state at a position (R3). -/
def unitState? : Nat → Option UnitState
  | 0 => some .vacant
  | 1 => some .rented
  | 2 => some .overlocked
  | 3 => some .auctionHold
  | 4 => some .maintenance
  | _ => none

/-- Position of a tenancy state (R4). -/
def TenancyState.code : TenancyState → Nat
  | .active => 0
  | .grace => 1
  | .lockedOut => 2
  | .closed => 3

/-- The tenancy state at a position (R4). -/
def tenancyState? : Nat → Option TenancyState
  | 0 => some .active
  | 1 => some .grace
  | 2 => some .lockedOut
  | 3 => some .closed
  | _ => none

/-- Position of a credential kind (R5). -/
def CredKind.code : CredKind → Nat
  | .principal => 0
  | .delegate => 1
  | .staff => 2

/-- The credential kind at a position (R5). -/
def credKind? : Nat → Option CredKind
  | 0 => some .principal
  | 1 => some .delegate
  | 2 => some .staff
  | _ => none

/-- Position of a credential status (R5). -/
def CredStatus.code : CredStatus → Nat
  | .valid => 0
  | .suspended => 1

/-- The credential status at a position (R5). -/
def credStatus? : Nat → Option CredStatus
  | 0 => some .valid
  | 1 => some .suspended
  | _ => none

/-- Position of a base mode (R8). -/
def BaseMode.code : BaseMode → Nat
  | .normal => 0
  | .referral => 1
  | .locked => 2

/-- The base mode at a position (R8). -/
def baseMode? : Nat → Option BaseMode
  | 0 => some .normal
  | 1 => some .referral
  | 2 => some .locked
  | _ => none

/-- Position of an unlock base (R8). -/
def UnlockBase.code : UnlockBase → Nat
  | .ms100 => 0
  | .s1 => 1

/-- The unlock base at a position (R8). -/
def unlockBase? : Nat → Option UnlockBase
  | 0 => some .ms100
  | 1 => some .s1
  | _ => none

/-- Position of a passback rule (R8). -/
def Passback.code : Passback → Nat
  | .none => 0
  | .soft => 1
  | .hard => 2

/-- The passback rule at a position (R8). -/
def passback? : Nat → Option Passback
  | 0 => some .none
  | 1 => some .soft
  | 2 => some .hard
  | _ => none

/-- Position of a strike polarity (R8). -/
def Polarity.code : Polarity → Nat
  | .releaseHigh => 0
  | .releaseLow => 1

/-- The strike polarity at a position (R8). -/
def polarity? : Nat → Option Polarity
  | 0 => some .releaseHigh
  | 1 => some .releaseLow
  | _ => none

/-- Position of a referral fallback (R8). -/
def Fallback.code : Fallback → Nat
  | .grant => 0
  | .deny => 1

/-- The referral fallback at a position (R8). -/
def fallback? : Nat → Option Fallback
  | 0 => some .grant
  | 1 => some .deny
  | _ => none

/-- Position of a car mode (R9). -/
def CarMode.code : CarMode → Nat
  | .normal => 0
  | .locked => 1

/-- The car mode at a position (R9). -/
def carMode? : Nat → Option CarMode
  | 0 => some .normal
  | 1 => some .locked
  | _ => none

/-- Position of a leaf state (R83). -/
def LeafState.code : LeafState → Nat
  | .secure => 0
  | .released => 1
  | .opened => 2
  | .held => 3
  | .forced => 4
  | .free => 5

/-- Position of a verdict: IN, OUT (R83). -/
def Verdict.code : Verdict → Nat
  | .inWindow => 0
  | .outWindow => 1

/-- Position of a leaf position (R83). -/
def LeafPosition.code : LeafPosition → Nat
  | .opened => 0
  | .closed => 1
  | .unknown => 2
  | .notSensed => 3

/-- Position of a session state (R121). -/
def Session.code : Session → Nat
  | .closed => 0
  | .opened => 1

/-! ## Optional operands of PUT_PORTAL -/

/-- An absent optional one-byte operand, sent at its all-ones value (R177). -/
def absentByte : Nat := 0xFF

/-- The free profile of PUT_PORTAL: absent, or 0 to 14 (R8, R20). -/
def freeProfile? (n : Nat) : Option (Option Nat) :=
  if n = absentByte then some none else if n ≤ 14 then some (some n) else none

/-- The interlock group of PUT_PORTAL: absent, or 0 to 3 (R8, R20). -/
def group? (n : Nat) : Option (Option (Fin 4)) :=
  if n = absentByte then some none else (car? n).map some

/-! ## Whole records from operands -/

/-- The portal record that PUT_PORTAL's fields give, or none if a field lies outside its range (R8, R20). -/
def portalRecOf (o : PortalOperands) : Option PortalRec := do
  let enabled ← yesNo? o.enabled
  let baseMode ← baseMode? o.baseMode
  let freeProfile ← freeProfile? o.freeProfile
  let unlockBase ← unlockBase? o.unlockBase
  let passback ← passback? o.passback
  let leafSensor ← yesNo? o.leafSensor
  let beam ← yesNo? o.beam
  let exitButton ← yesNo? o.exitButton
  let egress ← yesNo? o.egress
  let polarity ← polarity? o.polarity
  let group ← group? o.group
  let fallback ← fallback? o.fallback
  if inRange o.outer 0 15 && inRange o.inner 1 15 && o.inner != o.outer && inRange o.unlockCount 1 255
      && inRange o.heldLimit 0 255 && inRange o.timeout 5 60 then
    some
      { enabled := enabled, outer := o.outer, inner := o.inner, baseMode := baseMode, freeProfile := freeProfile,
        unlockCount := o.unlockCount, unlockBase := unlockBase, heldLimit := o.heldLimit, passback := passback,
        leafSensor := leafSensor, beam := beam, exitButton := exitButton, egress := egress, polarity := polarity,
        group := group, fallback := fallback, timeout := o.timeout }
  else none

/-- The car record that PUT_CAR's fields give, or none if a field lies outside its range or the zone list does not hold
one zone for each landing (R9, R21). -/
def carRecOf (o : CarOperands) : Option CarRec := do
  let enabled ← yesNo? o.enabled
  let mode ← carMode? o.mode
  let passback ← passback? o.passback
  if inRange o.landings 1 16 && o.zones.length == o.landings && o.zones.all (fun z => inRange z 1 15)
      && decide (o.home < o.landings) && inRange o.window 5 120 then
    some
      { enabled := enabled, landings := o.landings, zones := o.zones, home := o.home, mode := mode,
        passback := passback, window := o.window }
  else none

/-- An optional operand is absent or lies in 0 to a bound. -/
def optInRange (x : Option Nat) (hi : Nat) : Bool := x.all (fun n => decide (n ≤ hi))

/-- The fields that the kind requires are present, and those it does not allow are absent (R5, R16). -/
def fieldsFit (k : CredKind) (o : CredentialOperands) : Bool :=
  match k with
  | .principal =>
    o.tenancy.isSome && o.expiry.isNone && o.budget.isNone && o.staffProfile.isNone && o.staffZones.isNone
  | .delegate => o.tenancy.isSome && o.staffProfile.isNone && o.staffZones.isNone
  | .staff =>
    o.tenancy.isNone && o.expiry.isNone && o.budget.isNone && o.staffProfile.isSome && o.staffZones.isSome

/-- The credential record that PUT_CREDENTIAL's operands give, or none where check 1 of R16 fails. -/
def credRecOf (o : CredentialOperands) : Option CredRec := do
  let kind ← credKind? o.kind
  let status ← credStatus? o.status
  if idInRange o.id && o.reserved == 0 && fieldsFit kind o && optInRange o.tenancy 1023 && optInRange o.expiry 65535
      && optInRange o.budget 255 && optInRange o.staffProfile 15 && o.staffZones.all (fun z => !z.getLsbD 0) then
    some
      { kind := kind, status := status, tenancy := o.tenancy, expiry := o.expiry, budget := o.budget,
        staffProfile := o.staffProfile, staffZones := o.staffZones }
  else none

/-- One window of PUT_PROFILE is in range (R6, R18). -/
def windowFits (w : WindowOperand) : Bool :=
  w.classes != 0 && decide (w.openMinute ≤ 1439) && inRange w.closeMinute 1 1440 && decide (w.openMinute < w.closeMinute)

/-- The window that an operand gives. -/
def windowOf (w : WindowOperand) : Window :=
  { classes := w.classes, openMinute := w.openMinute, closeMinute := w.closeMinute }

/-- The profile that PUT_PROFILE's operands give, or none if one is out of range (R18). -/
def profileRecOf (windows : List WindowOperand) (common : Set16) (grace : Nat) : Option ProfileRec :=
  if decide (windows.length ≤ 6) && windows.all windowFits && !common.getLsbD 0 && decide (grace ≤ 240) then
    some
      { windows := windows.map windowOf, common := common, grace := grace }
  else none

end Sys2Proof.Machine
end

