-- ==== Sys2Proof/Machine/Clock.lean ====
section
/-! DEFINITION. Clock: the steps of the Site Clock, day classes, window verdicts and the expiry test (Chapter 2). -/

namespace Sys2Proof.Machine

/-! ## Steps of the clock -/

/-- The second passes 59: it returns to 0 and the minute advances, with the day at the end of minute 1,439, and the day
number wraps after 65,535 (R28). -/
def Clock.nextMinute (k : Clock) : Clock :=
  if k.minute + 1 < 1440 then { k with second := 0, minute := k.minute + 1, boundaryDue := false }
  else { k with second := 0, minute := 0, day := (k.day + 1) % 65536, boundaryDue := false }

/-- The tick to come ends the minute. -/
def Clock.endsMinute (k : Clock) : Bool :=
  k.phase + 1 == Config.ticksPerSecond && k.second == 59 && !k.boundaryDue

/-- One tick, up to but not including the minute boundary: the tick count and the tick phase advance, and at a phase of
100 the second; where the second would pass 59 the boundary is due (R28, log entry 8). -/
def Clock.advance (k : Clock) : Clock :=
  if k.phase + 1 < Config.ticksPerSecond then { k with tick := k.tick + 1, phase := k.phase + 1 }
  else if k.second < 59 then { k with tick := k.tick + 1, phase := 0, second := k.second + 1 }
  else { k with tick := k.tick + 1, phase := 0, boundaryDue := true }

/-! ## Day classes and verdicts -/

/-- Day class of a day number against the holiday list in the mirror (R35). -/
def dayClass (m : Mirror) (day : Nat) : Nat := if m.holidays.contains day then 7 else day % 7

/-- The profile of a number: 15 is fixed, and a profile that is not listed is the default (R6). -/
def profileOf (m : Mirror) (n : Nat) : ProfileRec :=
  if n = 15 then ProfileRec.fixed15 else (m.profiles.find? n).getD ProfileRec.initial

/-- A window admits at a day class and minute (R36). -/
def windowAdmits (cls minute : Nat) (w : Window) : Bool :=
  w.classes.getLsbD cls && decide (w.openMinute ≤ minute) && decide (minute < w.closeMinute)

/-- The window verdict of a profile for the clock's present day class and minute: OUT for profiles 0 to 14 while the
clock is UNSET, otherwise IN exactly when a window admits (R36, R37). -/
def State.verdict (s : State) (profile : Nat) : Verdict :=
  if !s.clock.valid && profile != 15 then .outWindow
  else if (profileOf s.store.mirror profile).windows.any
      (windowAdmits (dayClass s.store.mirror s.clock.day) s.clock.minute) then .inWindow
  else .outWindow

/-- The expiry test of a credential: it passes without an expiry day, and otherwise while the clock is VALID and the
day number is no greater than the expiry day (R39). -/
def State.expiryPasses (s : State) (r : CredRec) : Bool :=
  match r.expiry with
  | none => true
  | some d => s.clock.valid && decide (s.clock.day ≤ d)

/-! ## SET_CLOCK -/

/-- Load the time, reset the tick phase and make the clock VALID; a boundary of the old time that has not been taken
does not come (R32, R33). -/
def Clock.load (k : Clock) (day minute second : Nat) : Clock :=
  { k with day := day, minute := minute, second := second, phase := 0, valid := true, boundaryDue := false }

/-- The owner's part of SET_CLOCK (R32, R33). -/
def setClock (day minute second : Nat) (s : State) : State × Reply :=
  if decide (day ≤ 65535) && decide (minute ≤ 1439) && decide (second ≤ 59) then
    let t := { s with clock := s.clock.load day minute second }
    (t.note .clockSet none (some (if s.clock.valid then 0 else 1)), Reply.done [])
  else (s, Reply.refusal .badValue)

end Sys2Proof.Machine
end

