-- ==== Sys2Proof/Machine/Cars.lean ====
section
/-! DEFINITION. Cars: the Car Units' own operations: sessions, removals and landings (Chapter 7). What an arrival or an
expiry does on the roster stands in Roster.lean. -/

namespace Sys2Proof.Machine

/-- A session is OPEN exactly while the list holds a passenger; the timer of a closed session is stopped (R121,
R126). -/
def Car.settleSession (c : Car) : Car :=
  if c.passengers.isEmpty then { c with session := .closed, timer := none } else c

/-- Remove a credential's passenger place; the session closes if the list is then empty (R122, R130, R131). -/
def Car.remove (c : Car) (id : Nat) : Car :=
  Car.settleSession { c with passengers := c.passengers.filter (fun q => q.id != id) }

/-- Empty the list: the session closes and the timer stops (R127, R130). -/
def Car.clear (c : Car) : Car := { c with passengers := [], session := .closed, timer := none }

/-- A credential is among the passengers. -/
def Car.carries (c : Car) (id : Nat) : Bool := c.passengers.any (fun q => q.id == id)

/-- A credential is a passenger of some car (R47). -/
def State.inAnyCar (s : State) (id : Nat) : Bool := allCars.any (fun c => s.cars[c].carries id)

/-- A credential is a passenger of a car other than `c` (R61). -/
def State.inOtherCar (s : State) (c : Fin 4) (id : Nat) : Bool :=
  allCars.any (fun d => d != c && s.cars[d].carries id)

/-- Replace the landing set of a passenger, keeping its place (R129). -/
def regrantPassenger (id : Nat) (landings : Set16) (q : Passenger) : Passenger :=
  if q.id = id then { q with landings := landings } else q

/-- A grant reaches a Car Unit: a new passenger joins at the end, a passenger has its landing set replaced, and the
session is OPEN with its timer restarted at the session window of the mirror (R126, R129). -/
def Car.grant (c : Car) (id : Nat) (landings : Set16) (expiry : Nat) : Car :=
  { c with
    passengers :=
      if c.carries id then c.passengers.map (regrantPassenger id landings)
      else c.passengers ++ [{ id := id, landings := landings }]
    session := .opened
    timer := some expiry }

/-- A car record that a put or a rebuild leaves in the mirror is taken up: a current landing that is not below the
landing count becomes unknown (R21, R125, R132). -/
def Car.takeUp (c : Car) (r : CarRec) : Car :=
  match c.landing with
  | some l => if l < r.landings then c else { c with landing := none }
  | none => c

end Sys2Proof.Machine
end

