-- ==== Sys2Proof/Machine/Roster.lean ====
section
/-! DEFINITION. Roster: the Presence Roster: entries joining, moving and leaving, budgets, out-of-window counting,
muster marks, and the roster's part of car arrivals, car expiries and office requests (Chapter 4, R123, R124, R127). -/

namespace Sys2Proof.Machine

/-! ## Readings (R66) -/

/-- The credential's entry, if it has one. -/
def State.entryOf (s : State) (id : Nat) : Option RosterEntry := s.roster.find? (fun e => e.id == id)

/-- The roster zone: the zone of the entry, or 0 (R47, R66). -/
def State.rosterZone (s : State) (id : Nat) : Nat := ((s.entryOf id).map (·.zone)).getD 0

/-- The muster mark of the entry; a holder with no entry has none (R47, R66). -/
def State.mustered (s : State) (id : Nat) : Bool := ((s.entryOf id).map (·.muster)).getD false

/-- The pending moves marked as arrivals at all sixteen portals (R54). -/
def State.pendingArrivals (s : State) : Nat :=
  (allPortals.map (fun p => (s.portals[p].moves.filter (·.arrival)).length)).sum

/-- The count of the site-limit check: roster length and pending arrivals (R54, R72). -/
def State.onSite (s : State) : Nat := s.roster.length + s.pendingArrivals

/-! ## Credentials of the mirror -/

/-- The credential's record in the mirror. -/
def State.credRec (s : State) (id : Nat) : Option CredRec := (s.store.mirror.credentials.find? id).map (·.record)

/-- The tenancy the credential record names, none for staff (R65, R67). -/
def State.credTenancy (s : State) (id : Nat) : Option Nat := (s.credRec id).bind (·.tenancy)

/-- Mark a credential for budget write-back, once (R23). -/
def Store.mark (t : Store) (id : Nat) : Store := if t.marks.contains id then t else { t with marks := t.marks ++ [id] }

/-- Spend one unit of a delegate's budget in the mirror and mark the credential for write-back; a budget of 0 stays 0,
and a credential with no budget is not decremented (R23, R69). DESIGN CHOICE: a budget of 0 that stays 0 marks the
credential too, which R23 and R69 leave open (log entry 33). -/
def State.spendBudget (s : State) (id : Nat) : State :=
  match s.store.mirror.credentials.find? id with
  | none => s
  | some e =>
    match e.record.budget with
    | none => s
    | some b =>
      let entry := { e with record := { e.record with budget := some (b - 1) } }
      let mirror := { s.store.mirror with credentials := s.store.mirror.credentials.put id entry }
      { s with store := Store.mark { s.store with mirror := mirror } id }

/-! ## Joining, moving and leaving -/

/-- The entry a creation makes: the present arrival stamp, the tenancy the credential record names, a counter of 0, clear
flags and no car (R67, R70). -/
def State.newEntry (s : State) (id zone : Nat) : RosterEntry where
  id := id
  tenancy := s.credTenancy id
  zone := zone
  day := s.clock.day
  minute := s.clock.minute
  counter := 0
  overstay := false
  muster := false
  car := none

/-- Create an entry at the end of the list and spend a present budget (R67, R69, R70). -/
def State.createEntry (s : State) (id zone : Nat) : State :=
  State.spendBudget { s with roster := s.roster ++ [s.newEntry id zone] } id

/-- Change the entry of a credential in its place. -/
def State.modEntry (s : State) (id : Nat) (f : RosterEntry → RosterEntry) : State :=
  { s with roster := s.roster.map (fun e => if e.id = id then f e else e) }

/-- A zone move: the zone is set and the muster mark clears (R68, R77). -/
def RosterEntry.moveTo (zone : Nat) (e : RosterEntry) : RosterEntry := { e with zone := zone, muster := false }

/-- An entry leaves the list; an entry with a car field hands the id to that Car Unit (R68, R71, R130). -/
def State.removeEntry (s : State) (id : Nat) : State :=
  let t := { s with roster := s.roster.filter (fun e => e.id != id) }
  match (s.entryOf id).bind (·.car) with
  | some c => t.modCar c (·.remove id)
  | none => t

/-- A move handed to the Roster is applied: an arrival creates an entry or moves the one there is, any other move sets
the zone or removes the entry, and a holder without an entry gains none from it (R67, R68). -/
def State.applyMove (s : State) (m : Move) : State :=
  match s.entryOf m.id with
  | none => if m.arrival then s.createEntry m.id m.toZone else s
  | some _ =>
    if !m.arrival && m.toZone == 0 then s.removeEntry m.id else s.modEntry m.id (RosterEntry.moveTo m.toZone)

/-- One commit: applied while the fire state is CLEAR, taken without effect while it is ACTIVE (R67, R68, R76). -/
def State.commit (s : State) (m : Move) : State := if s.fire.active then s else s.applyMove m

/-- Commits one after another in list order. -/
def State.commitAll (s : State) (ms : List Move) : State := ms.foldl State.commit s

/-! ## Out-of-window counting -/

/-- The profile a roster entry is counted by: its tenancy's, 0 if the tenancy is absent, or the staff profile (R73). -/
def State.entryProfile (s : State) (e : RosterEntry) : Nat :=
  match e.tenancy with
  | some t => ((s.store.mirror.tenancies.find? t).map (·.profile)).getD 0
  | none => ((s.credRec e.id).bind (·.staffProfile)).getD 0

/-- One entry stepped at a minute boundary (R73). -/
def State.stepEntry (s : State) (e : RosterEntry) : RosterEntry :=
  match s.verdict (s.entryProfile e) with
  | .inWindow => { e with counter := 0, overstay := false }
  | .outWindow =>
    let n := min (e.counter + 1) 255
    { e with counter := n, overstay := decide ((profileOf s.store.mirror (s.entryProfile e)).grace < n) }

/-- An overstay is raised for an entry whose flag goes from clear to set: an OVERSTAY record and the Office Port's flag
(R74). -/
def raiseOverstay (s : State) (before after : RosterEntry) : State :=
  if after.overstay && !before.overstay then
    (s.append { s.blankRecord .overstay with id := some after.id, count := some after.counter }).raise .office .overstay
  else s

/-- Every entry is stepped at a minute boundary while the fire state is CLEAR, and each overstay is raised in list order
(R73, R74). -/
def State.countOutOfWindow (s : State) : State :=
  if s.fire.active then s
  else
    let stepped := s.roster.map (fun e => (e, s.stepEntry e))
    stepped.foldl (fun t pair => raiseOverstay t pair.1 pair.2) { s with roster := stepped.map (·.2) }

/-! ## Fire clear -/

/-- The muster mark of every entry is set (R77). -/
def State.markAll (s : State) : State := { s with roster := s.roster.map (fun e => { e with muster := true }) }

/-! ## Cars and the roster -/

/-- A passenger's release from its car clears the car field of its entry, in either fire state (R71, R124). -/
def State.releaseFromCar (s : State) (id : Nat) : State := s.modEntry id (fun e => { e with car := none })

/-- One passenger alights at a zone: it is released from the car and handed to the Roster as a zone move, which a frozen
Roster takes without effect (R124, R76). -/
def alight (zone : Nat) (s : State) (q : Passenger) : State :=
  let t := s.releaseFromCar q.id
  if t.fire.active then t else t.modEntry q.id (RosterEntry.moveTo zone)

/-- An accepted arrival of car `c` at a landing: the current landing is set and the passengers whose sets hold it alight
in list order (R123, R124). -/
def State.arrive (s : State) (c : Fin 4) (landing : Nat) : State :=
  let off := s.cars[c].passengers.filter (fun q => q.landings.getLsbD landing)
  let on := s.cars[c].passengers.filter (fun q => !q.landings.getLsbD landing)
  let t := off.foldl (alight ((s.carRec c).zones.getD landing 0)) s
  t.modCar c (fun u => Car.settleSession { u with landing := some landing, passengers := on })

/-- The owner's part of CAR_ARRIVAL (R123). -/
def carArrival (car landing : Nat) (s : State) : State × Reply :=
  match car? car with
  | none => (s, Reply.refusal .badValue)
  | some c =>
    if landing < (s.carRec c).landings then
      let t := s.arrive c landing
      let left := t.cars[c].passengers.length
      (t, Reply.done (byte1 car ++ byte1 landing ++ byte1 (s.cars[c].passengers.length - left) ++ byte1 left
        ++ byte1 t.cars[c].session.code))
    else (s, Reply.refusal .badValue)

/-- The session of car `c` runs out: every passenger is dropped with its zone unchanged, and one CAR_TIMEOUT record is
appended (R127). -/
def State.expireSession (s : State) (c : Fin 4) : State :=
  let t := s.cars[c].passengers.foldl (fun t q => t.releaseFromCar q.id) s
  (t.modCar c Car.clear).note .carTimeout (some c.val) (some s.cars[c].passengers.length)

/-! ## Office requests -/

/-- A ROSTER_DROPPED record (R79 to R81). -/
def State.noteDropped (s : State) (id : Option Nat) (count : Nat) : State :=
  s.append { s.blankRecord .rosterDropped with id := id, count := some count }

/-- The owner's part of DROP_ROSTER_ENTRY (R79). -/
def dropRosterEntry (id : Nat) (s : State) : State × Reply :=
  if !idInRange id then (s, Reply.refusal .badValue)
  else if (s.entryOf id).isNone then (s, Reply.refusal .notFound)
  else ((s.removeEntry id).noteDropped (some id) 0, Reply.done [])

/-- The owner's part of CLEAR_ROSTER: every entry leaves and every Car Unit empties its list (R80, R130). -/
def clearRoster (s : State) : State × Reply :=
  let t := allCars.foldl (fun t c => t.modCar c Car.clear) { s with roster := [] }
  (t.noteDropped none s.roster.length, Reply.done (byte2 s.roster.length))

/-- The Roster takes the id of a credential that has left the mirror (R81). -/
def State.dropFromRoster (s : State) (id : Nat) : State :=
  if (s.entryOf id).isSome then (s.removeEntry id).noteDropped (some id) 1 else s

/-- The 14 bytes of a roster entry (R180). -/
def RosterEntry.bytes (e : RosterEntry) : List Byte :=
  byte4 e.id ++ optByte2 e.tenancy ++ byte1 e.zone ++ byte2 e.day ++ byte2 e.minute ++ byte1 e.counter
    ++ byte1 (e.overstay.toNat + 2 * e.muster.toNat) ++ optByte1 (e.car.map (·.val))

/-- The owner's part of READ_ROSTER (R78, R180). -/
def readRoster (start : Nat) (s : State) : State × Reply :=
  if start ≤ 255 then
    let run := (s.roster.drop start).take 4
    (s, Reply.done (byte2 s.roster.length ++ byte1 start ++ byte1 run.length ++ run.flatMap RosterEntry.bytes))
  else (s, Reply.refusal .badValue)

end Sys2Proof.Machine
end

