-- ==== Sys2Proof/Machine/Interlock.lean ====
section
/-! DEFINITION. Interlock: members, counting, own drives and the judgement of a release (Chapter 6), and the output pins
of the whole part, which follow the state at the end of every event (R84, R111, R157, R167). -/

namespace Sys2Proof.Machine

/-- A portal is an egress portal under an ACTIVE fire state: it does not count and is not judged (R118). -/
def State.egressUnderFire (s : State) (p : Fin 16) : Bool := s.fire.active && (s.portalRec p).egress

/-- A member counts towards its group while it is not SECURE, but for an egress portal under fire (R111, R118). -/
def State.counts (s : State) (p : Fin 16) : Bool := s.portals[p].leaf != .secure && !s.egressUnderFire p

/-- The members of a group in this part (R110). -/
def State.members (s : State) (g : Fin 4) : List (Fin 16) := allPortals.filter (fun p => (s.portalRec p).group == some g)

/-- The own drive of a group is PULLING while a member counts (R111). -/
def State.pulling (s : State) (g : Fin 4) : Bool := (s.members g).any s.counts

/-- The level of an interlock line: low (false) while this part or another device pulls it (R112). -/
def State.lineHigh (s : State) (g : Fin 4) : Bool := !s.pulling g && !s.pins.straps.ilOther[g]

/-- The judgement of a release at portal `p`: the number of the condition of R113 that makes its group busy, or none
where the portal belongs to no group, is an egress portal under fire (R118), or finds its group not busy. -/
def State.busyFor (s : State) (p : Fin 16) : Option Nat :=
  match (s.portalRec p).group with
  | none => none
  | some g =>
    if s.egressUnderFire p then none
    else if (s.members g).any (fun q => q != p && s.counts q) then some 1
    else if !s.pulling g && !s.lineHigh g then some 2
    else none

/-! ## Output pins -/

/-- The level of a strike line: release level exactly while the leaf state is RELEASED or FREE, by the strike polarity
of the mirror, and undriven until restore completes (R84). -/
def State.strikeLevel (s : State) (p : Fin 16) : StrikeLevel :=
  if s.running then
    let release := s.portals[p].leaf == .released || s.portals[p].leaf == .free
    match (s.portalRec p).polarity with
    | .releaseHigh => if release then .high else .low
    | .releaseLow => if release then .low else .high
  else .undriven

/-- ALARM is asserted while the tamper latch is set or a portal is FORCED or HELD (R108, R157). -/
def State.alarming (s : State) : Bool :=
  s.fire.latch || allPortals.any (fun p => s.portals[p].leaf == .forced || s.portals[p].leaf == .held)

/-- The output pins that the state asks for. -/
def State.outputs (s : State) : Outputs where
  strike := Vector.ofFn s.strikeLevel
  pulling := Vector.ofFn (fun g => s.running && s.pulling g)
  alarm := s.running && s.alarming
  oattn := s.running && attention s.office
  fattn := s.running && attention s.field

/-- The end of an event: the output pins follow the state (log entry 28). -/
def State.drive (s : State) : State := { s with outs := s.outputs }

/-- The outcome of an event: the next state, with its output pins driven. -/
def done (s : State) : Host.Outcome State Fault Refusal := .next s.drive

end Sys2Proof.Machine
end

