-- ==== Sys2Proof/Machine/Referrals.lean ====
section
/-! DEFINITION. Referrals: the Referral Queue's own operations: tickets, creation, resolution, and the requests that make
no re-check (Chapter 8). The re-check and the answers that ask for it stand in Decision.lean. -/

namespace Sys2Proof.Machine

/-- An entry is PENDING. -/
def Referral.isPending (e : Referral) : Bool := e.state == .pending

/-- The entry reader of a portal (R135). -/
def entryReader (p : Fin 16) : Nat := 2 * p.val

/-- The entry holding a ticket. -/
def State.referral? (s : State) (ticket : Nat) : Option Referral := s.referrals.find? (fun e => e.ticket == ticket)

/-- A reader has a PENDING entry other than the one of `except` (R48, R63). -/
def State.readerPending (s : State) (reader : Nat) (except : Option Nat) : Bool :=
  s.referrals.any (fun e => e.isPending && e.reader == reader && some e.ticket != except)

/-- The queue has a free place (R135, R137). -/
def State.queueHasPlace (s : State) : Bool := decide (s.referrals.length < Config.referralCapacity)

/-! ## Tickets -/

/-- The ticket after a ticket, with 255 followed by 1 (R136). -/
def ticketAfter (n : Nat) : Nat := if n < 255 then n + 1 else 1

/-- The first ticket from a candidate that no entry holds, over at most so many candidates (R136). -/
def freeTicket (held : List Nat) : Nat → Nat → Nat
  | 0, n => n
  | fuel + 1, n => if held.contains n then freeTicket held fuel (ticketAfter n) else n

/-- The ticket the next entry takes (R136). -/
def State.nextTicket (s : State) : Nat :=
  freeTicket (s.referrals.map (·.ticket)) Config.referralCapacity s.ticketCounter

/-! ## Creation and resolution -/

/-- A PENDING entry is created at the end of the list with the next ticket; a REFERRED record and REFERRAL_WAITING
follow (R136, R137). -/
def State.refer (s : State) (p : Fin 16) (id tenancy : Nat) (reason : Reason) : State :=
  let ticket := s.nextTicket
  let entry : Referral :=
    { ticket := ticket, reader := entryReader p, id := id, tenancy := tenancy, reason := reason, state := .pending,
      deadline := s.after ((s.portalRec p).timeout * Config.ticksPerSecond) }
  let t := { s with referrals := s.referrals ++ [entry], ticketCounter := ticketAfter ticket }
  let record :=
    { t.blankRecord .referred with
      subject := some (entryReader p), id := some id, reason := some reason, count := some t.referrals.length,
      ticket := some ticket }
  (t.append record).raise .office .referralWaiting

/-- The REFERRAL_OUTCOME record of an entry (R138, R144). -/
def State.outcomeRecord (s : State) (e : Referral) (outcome : JournalOutcome) (reason : Option Reason)
    (count : Option Nat) : Record :=
  { s.blankRecord .referralOutcome with
    subject := some e.reader, id := some e.id, outcome := some outcome, reason := reason, count := count,
    ticket := some e.ticket }

/-- Set the state of the entry with a ticket, in its place. -/
def resolveIn (ticket : Nat) (o : EntryOutcome) (e : Referral) : Referral :=
  if e.ticket = ticket then { e with state := .resolved o } else e

/-- A resolution: the entry becomes RESOLVED with its outcome, a REFERRAL_OUTCOME record is appended and OUTCOME_READY
is raised on the Field Port (R138). -/
def State.resolve (s : State) (e : Referral) (o : EntryOutcome) : State :=
  let t := { s with referrals := s.referrals.map (resolveIn e.ticket o) }
  (t.append (t.outcomeRecord e (.entry o) o.reason o.count)).raise .field .outcomeReady

/-- Resolve each of a list of entries with one outcome, in order. -/
def State.resolveAll (s : State) (es : List Referral) (o : EntryOutcome) : State :=
  es.foldl (fun t e => t.resolve e o) s

/-- The PENDING entry at a freed portal's entry reader is resolved as FREED (R142). -/
def State.freeReferrals (s : State) (p : Fin 16) : State :=
  s.resolveAll (s.referrals.filter (fun e => e.isPending && e.reader == entryReader p)) .freed

/-- Every PENDING entry of a dropped credential is resolved as CANCELLED, in list order (R143). -/
def State.cancelReferrals (s : State) (id : Nat) : State :=
  s.resolveAll (s.referrals.filter (fun e => e.isPending && e.id == id)) .cancelled

/-- An entry leaves the list (R135). -/
def State.removeReferral (s : State) (ticket : Nat) : State :=
  { s with referrals := s.referrals.filter (fun e => e.ticket != ticket) }

/-! ## Requests -/

/-- The items with which ANSWER_REFERRAL and WITHDRAW report an outcome: its code, then its deny reason and its grant
count, each absent unless the outcome carries it (R139, R144, log entry 21). -/
def outcomeItems (o : EntryOutcome) : List Byte :=
  byte1 o.code ++ optByte1 (o.reason.map Reason.code) ++ optByte1 o.count

/-- The owner's part of WITHDRAW (R144). -/
def withdraw (ticket : Nat) (s : State) : State × Reply :=
  if ticket = 0 then (s, Reply.refusal .badValue)
  else
    match s.referral? ticket with
    | none => (s, Reply.refusal .unknownTicket)
    | some e =>
      match e.state with
      | .pending =>
        let t := s.removeReferral ticket
        (t.append (t.outcomeRecord e .withdrawn none none),
          Reply.done (byte1 ticket ++ byte1 withdrawnCode ++ optByte1 none ++ optByte1 none))
      | .resolved o => (s.removeReferral ticket, Reply.done (byte1 ticket ++ outcomeItems o))

/-- The RESOLVED entries. -/
def State.resolvedCount (s : State) : Nat := (s.referrals.filter (fun e => !e.isPending)).length

/-- The PENDING entries. -/
def State.pendingReferrals (s : State) : List Referral := s.referrals.filter (·.isPending)

/-- The entry taken leaves the list, and the reply carries its items (R145). -/
def State.takeEntry (s : State) (e : Referral) (o : EntryOutcome) : State × Reply :=
  let t := s.removeReferral e.ticket
  (t, Reply.done (byte1 e.ticket ++ byte1 e.reader ++ byte4 e.id ++ byte1 o.code
    ++ byte1 (o.reason.getD .none).code ++ byte1 (o.count.getD 0) ++ byte1 t.resolvedCount))

/-- An entry is taken if it is RESOLVED; a PENDING entry is refused with NOT_FOUND (R145). -/
def State.takeIfResolved (s : State) (e : Referral) : State × Reply :=
  match e.state with
  | .pending => (s, Reply.refusal .notFound)
  | .resolved o => s.takeEntry e o

/-- The owner's part of TAKE_OUTCOME: with ticket 0 the oldest RESOLVED entry, otherwise the entry of the ticket
(R145). -/
def takeOutcome (ticket : Nat) (s : State) : State × Reply :=
  if ticket = 0 then
    match s.referrals.find? (fun e => !e.isPending) with
    | none => (s, Reply.refusal .notFound)
    | some e => s.takeIfResolved e
  else
    match s.referral? ticket with
    | none => (s, Reply.refusal .unknownTicket)
    | some e => s.takeIfResolved e

/-- The items of one PENDING entry in LIST_REFERRALS (R146). Listed at its deadline's own tick before the deadline is
taken, its ticks remaining are a free value from 1 to 6,000 (log entry 30). -/
def Referral.bytes (now : Nat) (e : Referral) : List Byte :=
  byte1 e.ticket ++ byte1 e.reader ++ byte4 e.id ++ byte2 e.tenancy ++ byte1 e.reason.code ++ byte2 (ticksLeft 6000 now e.deadline)

/-- The owner's part of LIST_REFERRALS (R146). -/
def listReferrals (s : State) : State × Reply :=
  (s, Reply.done (byte1 s.pendingReferrals.length ++ byte1 s.resolvedCount
    ++ s.pendingReferrals.flatMap (Referral.bytes s.clock.tick)))

end Sys2Proof.Machine
end

