-- ==== Sys2Proof/Machine/Portals.lean ====
section
/-! DEFINITION. Portals: the Portal Controllers: grants, timers, recognitions, passages, the exit button, effective mode,
holds, reprogramming and the snapshot (Chapter 5). -/

namespace Sys2Proof.Machine

/-! ## Timers -/

/-- The unlock period in ticks, read from the mirror (R87). -/
def State.unlockPeriod (s : State) (p : Fin 16) : Nat :=
  match (s.portalRec p).unlockBase with
  | .ms100 => (s.portalRec p).unlockCount * 10
  | .s1 => (s.portalRec p).unlockCount * 100

/-- Preset the unlock timer to the full period from now (R87). -/
def State.presetUnlock (s : State) (p : Fin 16) : State :=
  s.modPortal p (fun q => { q with unlock := some (s.after (s.unlockPeriod p)) })

/-- The held timer as it starts now, with the held limit read from the mirror; a limit of 0 gives it no expiry (R92). -/
def State.heldStart (s : State) (p : Fin 16) : HeldTimer where
  start := s.clock.tick
  expiry :=
    if (s.portalRec p).heldLimit = 0 then none
    else some (s.after ((s.portalRec p).heldLimit * Config.ticksPerSecond))

/-- Whole seconds since the held timer's start (R93, R107). -/
def State.heldSeconds (s : State) (q : Portal) : Nat :=
  match q.held with
  | some h => wholeSeconds (s.clock.tick - h.start)
  | none => 0

/-! ## Beginnings and ends of a cycle -/

/-- The cycle ends in a leaf state: counts at 0, tailgate check off, list empty, both timers stopped (R83). -/
def Portal.endCycle (leaf : LeafState) (q : Portal) : Portal :=
  { q with leaf := leaf, grants := 0, passages := 0, tailgate := false, moves := [], unlock := none, held := none }

/-- A cycle begins from SECURE by a grant or an exit press: RELEASED, one grant, tailgate check on (R86, R98). -/
def Portal.release (moves : List Move) (q : Portal) : Portal :=
  { q with leaf := .released, grants := 1, passages := 0, tailgate := true, moves := moves }

/-- A fresh cycle with the leaf found open: no allowance, tailgate check off, held timer started (R90, R102). -/
def Portal.foundOpen (h : HeldTimer) (q : Portal) : Portal := { q.endCycle .opened with held := some h }

/-- Pending moves are discarded in list order, each with a NOT_USED record (R89). -/
def State.discardAll (s : State) (p : Fin 16) (ms : List Move) : State :=
  ms.foldl
    (fun t m => t.append { t.blankRecord .notUsed with subject := some p.val, id := some m.id, ticket := m.ticket }) s

/-- A release lapses: the portal is SECURE, and its moves commit where no leaf sensor is fitted and are discarded where
one is (R88, R89, R103). -/
def State.lapse (s : State) (p : Fin 16) : State :=
  let t := s.modPortal p (Portal.endCycle .secure)
  if (s.portalRec p).leafSensor then t.discardAll p s.portals[p].moves else t.commitAll s.portals[p].moves

/-- The tailgate judgement of a cycle that the leaf closes (R94). -/
def State.judgeTailgate (s : State) (p : Fin 16) (q : Portal) : State :=
  if (s.portalRec p).beam && q.tailgate && decide (q.grants < q.passages) then
    (s.note .tailgate (some p.val) (some (q.passages - q.grants))).raiseBoth .tailgate
  else s

/-! ## Grants -/

/-- The grant count a grant with a move leaves (R86). -/
def State.countAfterGrant (s : State) (p : Fin 16) : Nat :=
  if s.portals[p].leaf = .secure then 1 else s.portals[p].grants + 1

/-- A grant with a move reaches the controller (R86). -/
def State.grantMove (s : State) (p : Fin 16) (m : Move) : State :=
  match s.portals[p].leaf with
  | .secure => (s.modPortal p (Portal.release [m])).presetUnlock p
  | .released => (s.modPortal p (fun q => { q with grants := q.grants + 1, moves := q.moves ++ [m] })).presetUnlock p
  | .opened | .held => (s.modPortal p (fun q => { q with grants := q.grants + 1 })).commit m
  | .forced | .free => s

/-- A regrant reaches the controller: it presets the unlock timer, which runs in RELEASED alone (R86, R87). -/
def State.regrant (s : State) (p : Fin 16) : State :=
  if s.portals[p].leaf = .released then s.presetUnlock p else s

/-- The unlock timer expires in RELEASED (R88, R89). -/
def State.expireUnlock (s : State) (p : Fin 16) : State := if s.portals[p].leaf = .released then s.lapse p else s

/-- The held timer expires while the portal is OPEN: it becomes HELD (R92). -/
def State.expireHeld (s : State) (p : Fin 16) : State :=
  if s.portals[p].leaf = .opened then
    let t := s.modPortal p
      (fun q => { q with leaf := .held, held := q.held.map (fun h => { h with expiry := none }) })
    -- the limit in force when the timer started, from its two ticks
    let limit := ((s.portals[p].held.bind (fun h => h.expiry.map (fun e => (e - h.start) / Config.ticksPerSecond)))).getD 0
    (t.note .held (some p.val) (some limit)).raiseBoth .held
  else s

/-! ## The leaf -/

/-- The leaf is recognized open (R90, R95). An initial recognition is one from UNKNOWN (R85). -/
def State.leafOpened (s : State) (p : Fin 16) : State :=
  let q := s.portals[p]
  let t := s.modPortal p (fun q => { q with position := .opened, leafDebounce := none })
  match q.leaf with
  | .released =>
    (t.modPortal p
      (fun q => { q with leaf := .opened, moves := [], unlock := none, held := some (s.heldStart p) })).commitAll q.moves
  | .secure =>
    if q.position = .unknown then t.modPortal p (Portal.foundOpen (s.heldStart p))
    else ((t.modPortal p (Portal.endCycle .forced)).note .forced (some p.val) none).raiseBoth .forced
  | .opened | .held | .forced | .free => t

/-- The cycle of an OPEN, HELD or FORCED portal ends by the leaf closing (R93, R94). -/
def State.closeLeaf (s : State) (p : Fin 16) : State :=
  let q := s.portals[p]
  let t := s.modPortal p (Portal.endCycle .secure)
  match q.leaf with
  | .opened => t.judgeTailgate p q
  | .held => (t.note .heldCleared (some p.val) (some (s.heldSeconds q))).judgeTailgate p q
  | .forced => t.note .forcedCleared (some p.val) (some q.passages)
  | .secure | .released | .free => s

/-- The leaf is recognized closed (R93). -/
def State.leafClosed (s : State) (p : Fin 16) : State :=
  (s.modPortal p (fun q => { q with position := .closed, leafDebounce := none })).closeLeaf p

/-! ## Debounce of LEAF and EXIT (R85) -/

/-- The leaf position that a level of LEAF shows. -/
def leafPositionOf (asserted : Bool) : LeafPosition := if asserted then .opened else .closed

/-- The exit position that a level of EXIT shows. -/
def exitPositionOf (asserted : Bool) : ExitPosition := if asserted then .pressed else .released

/-- LEAF has changed level: where a sensor is fitted, the debounce timer starts if the level differs from the recognized
position and is cancelled if it agrees (R85). -/
def State.debounceLeaf (s : State) (p : Fin 16) (asserted : Bool) : State :=
  if (s.portalRec p).leafSensor then
    s.modPortal p (fun q =>
      { q with
        leafDebounce := if q.position = leafPositionOf asserted then none else some (s.after Config.debounceTicks) })
  else s

/-- EXIT has changed level (R85). -/
def State.debounceExit (s : State) (p : Fin 16) (asserted : Bool) : State :=
  s.modPortal p (fun q =>
    { q with exitDebounce := if q.exit = exitPositionOf asserted then none else some (s.after Config.debounceTicks) })

/-! ## The exit button -/

/-- A press that is put to the controller: it is ignored, blocked by a busy group, or acts on the leaf state
(R98, R115). -/
def State.pressExit (s : State) (p : Fin 16) : State :=
  let q := s.portals[p]
  if !(s.portalRec p).exitButton || q.leaf = .free || q.leaf = .forced then s
  else
    match s.busyFor p with
    | some condition => s.note .exitBlocked (some p.val) (some condition)
    | none =>
      let t :=
        match q.leaf with
        | .secure => (s.modPortal p (Portal.release [])).presetUnlock p
        | .released =>
          (s.modPortal p (fun q => { q with grants := min (q.grants + 1) Config.grantCapacity })).presetUnlock p
        | .opened | .held | .forced | .free =>
          s.modPortal p (fun q => { q with grants := min (q.grants + 1) Config.grantCapacity })
      t.note .exitButton (some p.val) (some t.portals[p].grants)

/-- The exit button is recognized pressed; it is a press after a recognized RELEASED alone (R85, R98). -/
def State.exitPressed (s : State) (p : Fin 16) : State :=
  let t := s.modPortal p (fun q => { q with exit := .pressed, exitDebounce := none })
  if s.portals[p].exit = .released then t.pressExit p else t

/-! ## The beam (R96, R97) -/

/-- The filter as it starts now, by the level of the line (R96). -/
def State.beamStart (s : State) (p : Fin 16) : BeamFilter :=
  if s.pins.beam[p] then .counted else .rearming (s.after Config.beamTicks)

/-- The beam breaks (R96). -/
def BeamFilter.broken (expiry : Nat) : BeamFilter → BeamFilter
  | .armed => .timing expiry
  | .rearming _ => .counted
  | f => f

/-- The beam clears (R96). -/
def BeamFilter.cleared (expiry : Nat) : BeamFilter → BeamFilter
  | .timing _ => .armed
  | .counted => .rearming expiry
  | f => f

/-- A leaf state in which a qualifying interruption counts (R97). -/
def LeafState.countsPassages : LeafState → Bool
  | .released | .opened | .held | .forced => true
  | .secure | .free => false

/-- A qualifying interruption (R96, R97). -/
def Portal.interrupted (q : Portal) : Portal :=
  { q with beam := .counted, passages := if q.leaf.countsPassages then min (q.passages + 1) 255 else q.passages }

/-! ## Effective mode -/

/-- The mode that a base mode stands for. -/
def BaseMode.mode : BaseMode → Mode
  | .normal => .normal
  | .referral => .referral
  | .locked => .locked

/-- The effective mode that fire, hold, held schedule verdict and base mode give, in that order (R99). -/
def State.effectiveMode (s : State) (p : Fin 16) : Mode :=
  if s.egressUnderFire p then .free
  else
    match s.portals[p].hold with
    | some m => m
    | none => if s.portals[p].verdict = .inWindow then .free else (s.portalRec p).baseMode.mode

/-- The verdict of the portal's free profile now; OUT without one (R99). -/
def State.scheduleVerdict (s : State) (p : Fin 16) : Verdict :=
  match (s.portalRec p).freeProfile with
  | some f => s.verdict f
  | none => .outWindow

/-- The schedule verdict is judged (R99). -/
def State.judgeSchedule (s : State) (p : Fin 16) : State :=
  s.modPortal p (fun q => { q with verdict := s.scheduleVerdict p })

/-- The portal is freed from whatever leaf state it is in (R101): its moves are discarded, a HELD or FORCED state is
cleared with its record, and its PENDING referral is resolved as FREED (R142). -/
def State.freePortal (s : State) (p : Fin 16) : State :=
  let q := s.portals[p]
  let t := (s.modPortal p (Portal.endCycle .free)).discardAll p q.moves
  let u :=
    match q.leaf with
    | .held => t.note .heldCleared (some p.val) (some (s.heldSeconds q))
    | .forced => t.note .forcedCleared (some p.val) (some q.passages)
    | .secure | .released | .opened | .free => t
  u.freeReferrals p

/-- The mode leaves FREE: SECURE, or OPEN with a fresh cycle where the leaf is recognized open (R102). -/
def State.leaveFree (s : State) (p : Fin 16) : State :=
  if s.portals[p].position = .opened then s.modPortal p (Portal.foundOpen (s.heldStart p))
  else s.modPortal p (Portal.endCycle .secure)

/-- A new effective mode takes effect: its MODE record and MODE_CHANGE come first, then what it does to the leaf state
(R100 to R103). -/
def State.enterMode (s : State) (p : Fin 16) (m : Mode) : State :=
  let q := s.portals[p]
  let t := s.modPortal p (fun q => { q with mode := m })
  let u :=
    (t.append { t.blankRecord .mode with subject := some p.val, outcome := some (.mode m) }).raise .field .modeChange
  if m = .free then u.freePortal p
  else if q.mode = .free then u.leaveFree p
  else if m = .locked && q.leaf = .released then u.lapse p
  else u

/-- The effective mode is recomputed; an equal mode changes nothing (R100). -/
def State.recomputeMode (s : State) (p : Fin 16) : State :=
  if s.effectiveMode p = s.portals[p].mode then s else s.enterMode p (s.effectiveMode p)

/-- A Portal Controller's part of a minute boundary (R34, R99, R100). -/
def State.portalBoundary (s : State) (p : Fin 16) : State := (s.judgeSchedule p).recomputeMode p

/-! ## Holds -/

/-- The owner's part of HOLD_MODE (R104). -/
def holdMode (portal mode : Nat) (s : State) : State × Reply :=
  match portal? portal, mode? mode with
  | some p, some m =>
    let t := (s.modPortal p (fun q => { q with hold := some m })).recomputeMode p
    (t, Reply.done (byte1 t.portals[p].mode.code))
  | _, _ => (s, Reply.refusal .badValue)

/-- The owner's part of RELEASE_HOLD (R105). -/
def releaseHold (portal : Nat) (s : State) : State × Reply :=
  match portal? portal with
  | none => (s, Reply.refusal .badValue)
  | some p =>
    if s.portals[p].hold.isNone then (s, Reply.refusal .notFound)
    else
      let t := (s.modPortal p (fun q => { q with hold := none })).recomputeMode p
      (t, Reply.done (byte1 t.portals[p].mode.code))

/-! ## Reprogramming -/

/-- A change of the leaf sensor field (R106). -/
def State.takeUpSensor (s : State) (p : Fin 16) (old : PortalRec) : State :=
  if old.leafSensor && !(s.portalRec p).leafSensor then
    (s.modPortal p (fun q => { q with position := .notSensed, leafDebounce := none })).closeLeaf p
  else if !old.leafSensor && (s.portalRec p).leafSensor then
    s.modPortal p (fun q => { q with position := .unknown, leafDebounce := some (s.after Config.debounceTicks) })
  else s

/-- A change of the beam field (R96, R97, R106). -/
def State.takeUpBeam (s : State) (p : Fin 16) (old : PortalRec) : State :=
  if old.beam && !(s.portalRec p).beam then s.modPortal p (fun q => { q with beam := .stopped })
  else if !old.beam && (s.portalRec p).beam then s.modPortal p (fun q => { q with beam := s.beamStart p })
  else s

/-- The controller takes up the record that stands in the mirror in place of an old one: leaf sensor and beam first, then
the schedule is judged and the mode recomputed (R20, R106). -/
def State.takeUpPortal (s : State) (p : Fin 16) (old : PortalRec) : State :=
  (((s.takeUpSensor p old).takeUpBeam p old).judgeSchedule p).recomputeMode p

/-- The moves of a dropped credential are removed at every portal, with no record (R91). -/
def State.dropMoves (s : State) (id : Nat) : State :=
  allPortals.foldl (fun t p => t.modPortal p (fun q => { q with moves := q.moves.filter (fun m => m.id != id) })) s

/-! ## Snapshot -/

/-- The unlock remaining: ticks to the unlock expiry, 1 to 25,500; 0 while the timer is stopped (R107, log entry
30). -/
def State.unlockLeft (s : State) (timer : Option Nat) : Nat :=
  match timer with
  | some e => ticksLeft 25500 s.clock.tick e
  | none => 0

/-- The reply bytes of READ_PORTAL (R107). Taken at the unlock expiry's own tick before the expiry, the unlock remaining
is a free value from 1 to 25,500 (log entry 30). -/
def State.portalBytes (s : State) (p : Fin 16) : List Byte :=
  let q := s.portals[p]
  let elapsed := if q.leaf = .opened || q.leaf = .held then s.heldSeconds q else 0
  byte1 q.leaf.code ++ byte1 q.mode.code ++ optByte1 (q.hold.map Mode.code) ++ byte1 q.verdict.code
    ++ byte1 q.grants ++ byte1 q.passages ++ byte1 q.moves.length ++ byte1 (yesNoCode q.tailgate)
    ++ byte1 q.position.code ++ byte2 (s.unlockLeft q.unlock) ++ byte2 elapsed

/-- The owner's part of READ_PORTAL (R107). -/
def readPortal (portal : Nat) (s : State) : State × Reply :=
  match portal? portal with
  | none => (s, Reply.refusal .badValue)
  | some p => (s, Reply.done (s.portalBytes p))

end Sys2Proof.Machine
end

