-- ==== Sys2Proof/Machine/Decision.lean ====
section
/-! DEFINITION. Decision: the Decision Engine: the check sequences of entry, exit and car readers, the handing over of
their outcomes, and the referral re-check with the answers and deadlines that ask for it (Chapter 3, R139 to R141). -/

namespace Sys2Proof.Machine

/-! ## The holder (Section 3.2) -/

/-- The tenancy record that a credential stands on, if the mirror holds it (R45). -/
def State.holderTenancy (s : State) (r : CredRec) : Option TenancyRec :=
  r.tenancy.bind (fun t => s.store.mirror.tenancies.find? t)

/-- The profile used for the holder: the staff profile, or the tenancy's, or 0 where the tenancy is absent (R45). -/
def State.holderProfile (s : State) (r : CredRec) : Nat :=
  match r.kind with
  | .staff => r.staffProfile.getD 0
  | .principal | .delegate => ((s.holderTenancy r).map (·.profile)).getD 0

/-- A zone as a set; zone 0 is in no allowed set (R46). -/
def zoneBit (zone : Nat) : Set16 := if zone = 0 then 0 else 1#16 <<< zone

/-- The zone a unit contributes: its own while it is LET, none otherwise (R46). -/
def unitZone (m : Mirror) (n : Nat) : Set16 :=
  match m.units.find? n with
  | some u => if u.state = .rented then zoneBit u.zone else 0
  | none => 0

/-- The union of the zones that units contribute (R46). -/
def unitZones (m : Mirror) (units : List Nat) : Set16 := units.foldr (fun n set => unitZone m n ||| set) 0

/-- The allowed zone set (R46). -/
def State.allowedZones (s : State) (r : CredRec) : Set16 :=
  match r.kind with
  | .staff => r.staffZones.getD 0
  | .principal | .delegate =>
    match s.holderTenancy r with
    | some t => unitZones s.store.mirror t.units ||| (profileOf s.store.mirror t.profile).common
    | none => 0

/-- The credential has a pending move at portal `p` (R47). -/
def State.hasMoveAt (s : State) (p : Fin 16) (id : Nat) : Bool := s.portals[p].moves.any (fun m => m.id == id)

/-- The credential has a pending move at some portal (R47, R61). -/
def State.hasMove (s : State) (id : Nat) : Bool := allPortals.any (fun p => s.hasMoveAt p id)

/-- The credential has a pending move at a portal other than `p` (R52). -/
def State.hasMoveElsewhere (s : State) (p : Fin 16) (id : Nat) : Bool :=
  allPortals.any (fun q => q != p && s.hasMoveAt q id)

/-! ## Single checks: the deny reason where the check fails -/

/-- Check 1 at a portal's reader (R48). -/
def State.checkReader (s : State) (p : Fin 16) (reader : Nat) (except : Option Nat) : Option Reason :=
  if !(s.portalRec p).enabled then some .portalDisabled
  else if s.readerPending reader except then some .busy
  else none

/-- The second part of check 3 (R50). -/
def checkSuspended (r : CredRec) : Option Reason := if r.status = .suspended then some .suspended else none

/-- The expiry part of check 4, for delegates (R39, R50). -/
def State.checkExpiry (s : State) (r : CredRec) : Option Reason :=
  if r.kind = .delegate && !s.expiryPasses r then some .expired else none

/-- The budget part of check 4: a delegate with a budget of 0 and no roster entry (R50, R61). -/
def State.checkBudget (s : State) (id : Nat) (r : CredRec) : Option Reason :=
  if r.kind = .delegate && r.budget == some 0 && (s.entryOf id).isNone then some .budget else none

/-- Check 5, for principals and delegates: an absent tenancy counts as CLOSED (R45, R50). -/
def State.checkTenancy (s : State) (r : CredRec) : Option Reason :=
  if r.kind = .staff then none
  else
    match s.holderTenancy r with
    | none => some .tenancy
    | some t => if t.state = .closed || t.state = .lockedOut then some .tenancy else none

/-- Check 6 (R51). -/
def State.checkWindow (s : State) (r : CredRec) : Option Reason :=
  if s.verdict (s.holderProfile r) = .outWindow then some .window else none

/-- Check 7: the inner zone is in the allowed set (R51). -/
def State.checkZone (s : State) (p : Fin 16) (r : CredRec) : Option Reason :=
  if (s.allowedZones r).getLsbD (s.portalRec p).inner then none else some .zone

/-- The rule that a passback check judges by: a muster mark turns HARD into SOFT (R47, R53). -/
def State.passbackRule (s : State) (id : Nat) (rule : Passback) : Passback :=
  if rule = .hard && s.mustered id then .soft else rule

/-- What a passback rule does with a match or a mismatch: none where it denies, otherwise whether the grant is marked
PASSBACK_CORRECTED (R53). -/
def passbackOutcome (rule : Passback) (mismatch : Bool) : Option Bool :=
  match rule with
  | .none => some false
  | .soft => some mismatch
  | .hard => if mismatch then none else some false

/-- Check 10: an arrival is denied when the count has reached the site limit (R54). -/
def State.checkFull (s : State) (id : Nat) : Option Reason :=
  if (s.entryOf id).isNone && decide (s.store.mirror.siteLimit ≤ s.onSite) then some .full else none

/-- Check 11 at a portal (R55). -/
def State.checkCycle (s : State) (p : Fin 16) : Option Reason :=
  if Config.grantCapacity ≤ s.portals[p].grants || s.portals[p].leaf = .forced then some .busy else none

/-- Check 12 at a portal (R55, R114). -/
def State.checkInterlock (s : State) (p : Fin 16) : Option Reason :=
  if (s.busyFor p).isSome then some .interlock else none

/-! ## The sequences at a portal -/

/-- How the checks of a portal's reader end: a denial, FREE, a regrant, or all passed with the move to be granted and
whether passback corrected it. -/
inductive Checked where
  | deny (r : Reason)
  | free
  | regrant
  | pass (m : Move) (corrected : Bool)
  deriving DecidableEq, Repr

/-- Checks 8, 9, 10 where they apply, 11 and 12, with the move they grant (R52 to R55, R57, R58). `zone` is the zone the
holder must be in; `limited` says whether check 10 is made. -/
def State.checkPassage (s : State) (p : Fin 16) (id zone : Nat) (limited : Bool) (m : Move) : Checked :=
  if s.hasMoveElsewhere p id || s.inAnyCar id then .deny .pending
  else if s.hasMoveAt p id then .regrant
  else
    match passbackOutcome (s.passbackRule id (s.portalRec p).passback) (s.rosterZone id != zone) with
    | none => .deny .passback
    | some corrected =>
      match firstSome [if limited then s.checkFull id else none, s.checkCycle p, s.checkInterlock p] with
      | some r => .deny r
      | none => .pass m corrected

/-- The pending move of an entry grant: from the holder's roster zone to the inner zone (R57). -/
def State.entryMove (s : State) (p : Fin 16) (id : Nat) (ticket : Option Nat) : Move where
  id := id
  fromZone := s.rosterZone id
  toZone := (s.portalRec p).inner
  arrival := s.rosterZone id == 0
  ticket := ticket

/-- The pending move of an exit grant: from the inner zone to the outer zone, never an arrival (R58). -/
def State.exitMove (s : State) (p : Fin 16) (id : Nat) : Move where
  id := id
  fromZone := (s.portalRec p).inner
  toZone := (s.portalRec p).outer
  arrival := false
  ticket := none

/-- Checks 1 to 12 of the entry sequence (R48 to R55). In a re-check `recheck` is the ticket of the entry being judged,
which check 1 does not count and which the move carries (R63). -/
def State.entryChecks (s : State) (p : Fin 16) (id : Nat) (recheck : Option Nat) : Checked :=
  match s.checkReader p (entryReader p) recheck with
  | some r => .deny r
  | none =>
    match s.portals[p].mode with
    | .free => .free
    | .locked => .deny .portalLocked
    | .normal | .referral =>
      match s.credRec id with
      | none => .deny .unknown
      | some r =>
        match firstSome [checkSuspended r, s.checkExpiry r, s.checkBudget id r, s.checkTenancy r, s.checkWindow r,
            s.checkZone p r] with
        | some reason => .deny reason
        | none => s.checkPassage p id (s.portalRec p).outer true (s.entryMove p id recheck)

/-- The exit reader of a portal. -/
def exitReader (p : Fin 16) : Nat := 2 * p.val + 1

/-- The checks of the exit sequence (R58). -/
def State.exitChecks (s : State) (p : Fin 16) (id : Nat) : Checked :=
  match s.checkReader p (exitReader p) none with
  | some r => .deny r
  | none =>
    match s.portals[p].mode with
    | .free => .free
    | .locked => .deny .portalLocked
    | .normal | .referral =>
      match s.credRec id with
      | none => .deny .unknown
      | some _ => s.checkPassage p id (s.portalRec p).inner false (s.exitMove p id)

/-! ## The DECISION record and the reply -/

/-- Append the DECISION record (R64). -/
def State.noteDecision (s : State) (reader id : Nat) (d : Decision) (r : Reason) (count ticket : Option Nat) : State :=
  s.append
    { s.blankRecord .decision with
      subject := some reader, id := some id, outcome := some (.decision d), reason := some r, count := count,
      ticket := ticket }

/-- The reply to a PRESENT that reaches a decision (R43, R179). -/
def decisionReply (d : Decision) (r : Reason) (ticket : Nat) (landings : Set16) : Reply :=
  Reply.done (byte1 d.code ++ byte1 r.code ++ byte1 ticket ++ bytesOfSet landings)

/-- A decision that hands nothing over: FREE or DENY (R44). -/
def State.answerPlain (s : State) (reader id : Nat) (d : Decision) (r : Reason) : State × Reply :=
  (s.noteDecision reader id d r none none, decisionReply d r 0 0)

/-- A GRANT with a move at a portal: the DECISION record, then the controller takes the grant (R44, R57). -/
def State.answerGrant (s : State) (p : Fin 16) (reader id : Nat) (r : Reason) (m : Move) : State × Reply :=
  ((s.noteDecision reader id .grant r (some (s.countAfterGrant p)) none).grantMove p m, decisionReply .grant r 0 0)

/-- A regrant at a portal (R52, R64). -/
def State.answerRegrant (s : State) (p : Fin 16) (reader id : Nat) : State × Reply :=
  ((s.noteDecision reader id .grant .none (some s.portals[p].grants) none).regrant p, decisionReply .grant .none 0 0)

/-- A REFER: the DECISION record with the assigned ticket, then the queue takes the entry (R44, R137). -/
def State.answerRefer (s : State) (p : Fin 16) (id tenancy : Nat) (r : Reason) : State × Reply :=
  ((s.noteDecision (entryReader p) id .refer r none (some s.nextTicket)).refer p id tenancy r,
    decisionReply .refer r s.nextTicket 0)

/-! ## Step 13 -/

/-- The tenancy and the reason with which step 13 refers a holder: never staff; GRACE before PORTAL_REFERRAL (R56). -/
def State.referralOf (s : State) (p : Fin 16) (id : Nat) : Option (Nat × Reason) :=
  match s.credRec id with
  | none => none
  | some r =>
    if r.kind = .staff then none
    else
      match r.tenancy with
      | none => none
      | some t =>
        if (s.holderTenancy r).any (fun x => x.state == .grace) then some (t, .grace)
        else if s.portals[p].mode = .referral then some (t, .portalReferral)
        else none

/-- The reason of a grant: PASSBACK_CORRECTED before QUEUE_FALLBACK before NONE (R43). -/
def grantReason (corrected fallback : Bool) : Reason :=
  if corrected then .passbackCorrected else if fallback then .queueFallback else .none

/-- Steps 13 and 14 of the entry sequence (R56, R57). -/
def State.concludeEntry (s : State) (p : Fin 16) (id : Nat) (m : Move) (corrected : Bool) : State × Reply :=
  match s.referralOf p id with
  | none => s.answerGrant p (entryReader p) id (grantReason corrected false) m
  | some (tenancy, reason) =>
    if s.queueHasPlace then s.answerRefer p id tenancy reason
    else
      match (s.portalRec p).fallback with
      | .grant => s.answerGrant p (entryReader p) id (grantReason corrected true) m
      | .deny => s.answerPlain (entryReader p) id .deny .queueFull

/-- A presentation at an entry reader (Section 3.3). -/
def State.presentEntry (s : State) (p : Fin 16) (id : Nat) : State × Reply :=
  match s.entryChecks p id none with
  | .deny r => s.answerPlain (entryReader p) id .deny r
  | .free => s.answerPlain (entryReader p) id .free .none
  | .regrant => s.answerRegrant p (entryReader p) id
  | .pass m corrected => s.concludeEntry p id m corrected

/-- A presentation at an exit reader (Section 3.4). -/
def State.presentExit (s : State) (p : Fin 16) (id : Nat) : State × Reply :=
  match s.exitChecks p id with
  | .deny r => s.answerPlain (exitReader p) id .deny r
  | .free => s.answerPlain (exitReader p) id .free .none
  | .regrant => s.answerRegrant p (exitReader p) id
  | .pass m corrected => s.answerGrant p (exitReader p) id (grantReason corrected false) m

/-! ## Car readers (Section 3.5) -/

/-- The reader of a car. -/
def carReader (c : Fin 4) : Nat := 32 + c.val

/-- The landings from number `i` on whose zones are allowed (R60). -/
def allowedLandings (zones : Set16) : Nat → List Nat → Set16
  | _, [] => 0
  | i, z :: rest => (if zones.getLsbD z then 1#16 <<< i else 0) ||| allowedLandings zones (i + 1) rest

/-- The home landing as a set. -/
def homeBit (r : CarRec) : Set16 := 1#16 <<< r.home

/-- The landing set of a holder at a car: the allowed landings and the home landing (R60). -/
def landingSet (r : CarRec) (zones : Set16) : Set16 := allowedLandings zones 0 (r.zones.take r.landings) ||| homeBit r

/-- Passback at a car's reader: nothing is compared for a passenger of this car, or for a holder with an entry while the
landing is unknown; a holder with no entry is a mismatch (R61, R125). -/
def State.carMismatch (s : State) (c : Fin 4) (id : Nat) : Bool :=
  if s.cars[c].carries id then false
  else
    match s.entryOf id with
    | none => true
    | some e =>
      match s.cars[c].landing with
      | none => false
      | some l => e.zone != (s.carRec c).zones.getD l 0

/-- The zone of an entry created at a car's reader: the current landing's, or the home landing's while it is unknown
(R61, R125). -/
def State.creationZone (s : State) (c : Fin 4) : Nat :=
  (s.carRec c).zones.getD (s.cars[c].landing.getD (s.carRec c).home) 0

/-- How the checks of a car's reader end, before an entry is created and the passenger list is read. -/
inductive CarChecked where
  | deny (r : Reason)
  | pass (landings : Set16) (corrected : Bool)
  deriving DecidableEq, Repr

/-- The commitment, passback and creation checks of a car's reader (R61). -/
def State.checkRide (s : State) (c : Fin 4) (id : Nat) (r : CredRec) (landings : Set16) : CarChecked :=
  if s.hasMove id || s.inOtherCar c id then .deny .pending
  else
    match passbackOutcome (s.passbackRule id (s.carRec c).passback) (s.carMismatch c id) with
    | none => .deny .passback
    | some corrected =>
      match firstSome [s.checkBudget id r, s.checkFull id] with
      | some reason => .deny reason
      | none => .pass landings corrected

/-- The checks of a car's reader (R59 to R61). -/
def State.carChecks (s : State) (c : Fin 4) (id : Nat) : CarChecked :=
  if !(s.carRec c).enabled then .deny .portalDisabled
  else if (s.carRec c).mode = .locked then .deny .portalLocked
  else
    match s.credRec id with
    | none => .deny .unknown
    | some r =>
      match firstSome [checkSuspended r, s.checkExpiry r, s.checkTenancy r, s.checkWindow r] with
      | some reason => .deny reason
      | none =>
        let landings := landingSet (s.carRec c) (s.allowedZones r)
        if landings = homeBit (s.carRec c) then .deny .zone else s.checkRide c id r landings

/-- The Roster takes the creation of an entry for a holder that has none (R61, R70). -/
def State.ensureEntry (s : State) (c : Fin 4) (id : Nat) : State :=
  if (s.entryOf id).isNone then s.createEntry id (s.creationZone c) else s

/-- The expiry tick of a session timer started or restarted now (R126). -/
def State.sessionExpiry (s : State) (c : Fin 4) : Nat := s.after ((s.carRec c).window * Config.ticksPerSecond)

/-- The Car Unit and the Roster take a car grant: a new passenger's entry takes the car field (R71, R129). -/
def State.grantRide (s : State) (c : Fin 4) (id : Nat) (landings : Set16) : State :=
  let t := if s.cars[c].carries id then s else s.modEntry id (fun e => { e with car := some c })
  t.modCar c (fun u => u.grant id landings (s.sessionExpiry c))

/-- A presentation at a car's reader whose checks passed: the entry is created, and then the passenger list decides
(R61, R62). -/
def State.concludeRide (s : State) (c : Fin 4) (id : Nat) (landings : Set16) (corrected : Bool) : State × Reply :=
  let t := s.ensureEntry c id
  if Config.carCapacity ≤ t.cars[c].passengers.length && !t.cars[c].carries id then
    t.answerPlain (carReader c) id .deny .busy
  else
    let r := grantReason corrected false
    let length := if t.cars[c].carries id then t.cars[c].passengers.length else t.cars[c].passengers.length + 1
    ((t.noteDecision (carReader c) id .grant r (some length) none).grantRide c id landings,
      decisionReply .grant r 0 landings)

/-- A presentation at a car's reader. -/
def State.presentCar (s : State) (c : Fin 4) (id : Nat) : State × Reply :=
  match s.carChecks c id with
  | .deny r => s.answerPlain (carReader c) id .deny r
  | .pass landings corrected => s.concludeRide c id landings corrected

/-! ## PRESENT -/

/-- The owner's part of PRESENT (R41). -/
def present (reader id : Nat) (s : State) : State × Reply :=
  if !idInRange id then (s, Reply.refusal .badValue)
  else
    match portal? (reader / 2) with
    | some p => if reader % 2 = 0 then s.presentEntry p id else s.presentExit p id
    | none =>
      match car? (reader - 32) with
      | some c => s.presentCar c id
      | none => (s, Reply.refusal .badValue)

/-! ## The re-check (R63, R140) -/

/-- The re-check of a PENDING entry: the state after it, with the outcome the entry is resolved with. -/
def State.recheck (s : State) (e : Referral) : State × EntryOutcome :=
  match portal? (e.reader / 2) with
  | none => (s, .superseded .portalDisabled)
  | some p =>
    match s.entryChecks p e.id (some e.ticket) with
    | .deny r => (s, .superseded r)
    | .free => (s, .freed)
    | .regrant => (s.regrant p, .granted s.portals[p].grants)
    | .pass m _ => (s.grantMove p m, .granted (s.countAfterGrant p))

/-- A PENDING entry is re-checked and resolved (R140). -/
def State.recheckAndResolve (s : State) (e : Referral) : State × EntryOutcome :=
  ((s.recheck e).1.resolve e (s.recheck e).2, (s.recheck e).2)

/-- The owner's part of ANSWER_REFERRAL; the verdicts are APPROVE 0 and DENY 1 (R139). -/
def answerReferral (ticket id verdict : Nat) (s : State) : State × Reply :=
  if ticket = 0 || !idInRange id || decide (verdict > 1) then (s, Reply.refusal .badValue)
  else
    match s.referrals.find? (fun e => e.ticket == ticket && e.id == id) with
    | none => (s, Reply.refusal .unknownTicket)
    | some e =>
      if !e.isPending then (s, Reply.refusal .late)
      else
        let (t, o) := if verdict = 0 then s.recheckAndResolve e else (s.resolve e .denied, .denied)
        (t, Reply.done (byte1 ticket ++ outcomeItems o))

/-- A PENDING entry's deadline is reached: the fallback of the mirror decides (R141). -/
def State.reachDeadline (s : State) (e : Referral) : State :=
  match (portal? (e.reader / 2)).map (fun p => (s.portalRec p).fallback) with
  | some .grant => (s.recheckAndResolve e).1
  | some .deny | none => s.resolve e .timedOut

end Sys2Proof.Machine
end

