-- ==== Sys2Proof/Machine/Store.lean ====
section
/-! DEFINITION. Store: the Tenancy Store: programming of slots, the mirror's taking of records, restore, reconciliation,
store faults, budget write-back, and the checks and slots of every put and drop (Chapter 1). -/

namespace Sys2Proof.Machine

/-! ## Slots (R1) -/

/-- What programming leaves in a slot: VALID with the record, or INVALID where the read-back does not agree (log entry
17). -/
def slotOf {α : Type} (agrees : Bool) (r : α) : Slot α := if agrees then .valid r else .invalid

/-- What programming leaves in a slot that is given a record or erased. -/
def slotOrEmpty {α : Type} (agrees : Bool) (r : Option α) : Option (Slot α) :=
  if agrees then r.map Slot.valid else some .invalid

/-- Program one slot (R1, R11). -/
def Slots.program (t : Slots) (agrees : Bool) : SlotWrite → Slots
  | .unit n r => { t with units := t.units.put n (slotOf agrees r) }
  | .tenancy n r => { t with tenancies := t.tenancies.set n (slotOrEmpty agrees r) }
  | .credential k r => { t with credentials := t.credentials.set k (slotOrEmpty agrees r) }
  | .profile n r => { t with profiles := t.profiles.put n (slotOf agrees r) }
  | .holidays days => { t with holidays := some (slotOf agrees days) }
  | .portal p r => { t with portals := t.portals.put p.val (slotOf agrees r) }
  | .car c r => { t with cars := t.cars.put c.val (slotOf agrees r) }
  | .site limit => { t with site := some (slotOf agrees limit) }

/-- What a slot whose programming was cut short holds (R1, R26, log entry 1). -/
def Slots.interrupt (t : Slots) (left : Config.InterruptedSlot) (w : SlotWrite) : Slots :=
  match left with
  | .invalid => t.program false w
  | .old => t
  | .new => t.program true w

/-! ## The mirror takes records (R2, R11) -/

/-- The mirror's credential whose slot is `k`, if one is held there. -/
def Mirror.idInSlot (m : Mirror) (k : Nat) : Option Nat :=
  (m.credentials.entries.find? (fun e => e.2.slot == k)).map (·.1)

/-- The credential table without the record held in slot `k`. -/
def Mirror.dropSlot (m : Mirror) (k : Nat) : Table CredEntry :=
  ⟨m.credentials.entries.filter (fun e => e.2.slot != k)⟩

/-- The mirror takes the record that a slot write carries. -/
def Mirror.take (m : Mirror) : SlotWrite → Mirror
  | .unit n r => { m with units := m.units.put n r }
  | .tenancy n r => { m with tenancies := m.tenancies.set n r }
  | .credential k (some r) => { m with credentials := (m.dropSlot k).put r.id { slot := k, record := r.record } }
  | .credential k none => { m with credentials := m.dropSlot k }
  | .profile n r => { m with profiles := m.profiles.put n r }
  | .holidays days => { m with holidays := days }
  | .portal p r => { m with portals := m.portals.set p r }
  | .car c r => { m with cars := m.cars.set c r }
  | .site limit => { m with siteLimit := limit }

/-! ## Loading and reconciliation (R26) -/

/-- The record of a slot that reads VALID. -/
def Slot.record? {α : Type} : Slot α → Option α
  | .valid r => some r
  | .invalid => none

/-- The record that a slot's content loads: none for EMPTY and INVALID. -/
def loaded {α : Type} (x : Option (Slot α)) : Option α := x.bind Slot.record?

/-- The VALID records of a group of slots, under their slot numbers. -/
def loadTable {α : Type} (t : Table (Slot α)) : Table α :=
  ⟨t.entries.filterMap (fun e => e.2.record?.map (fun r => (e.1, r)))⟩

/-- The INVALID slots of a group. -/
def invalidIn {α : Type} (t : Table (Slot α)) : Nat := (t.entries.filter (fun e => e.2.record?.isNone)).length

/-- Whether a single slot reads INVALID. -/
def invalidOne {α : Type} (x : Option (Slot α)) : Nat :=
  match x with
  | some .invalid => 1
  | _ => 0

/-- The invalid-slot count (R26). -/
def Slots.invalidCount (t : Slots) : Nat :=
  invalidIn t.units + invalidIn t.tenancies + invalidIn t.credentials + invalidIn t.profiles + invalidOne t.holidays
    + invalidIn t.portals + invalidIn t.cars + invalidOne t.site

/-- The credential table with the duplicate slots found: of two VALID slots that hold one id, the lower-numbered one is
kept (R26, pass 1). -/
structure CredLoad where
  table : Table CredEntry
  duplicates : Table Nat

/-- Load one credential slot; slots come in ascending number (R26). -/
def CredLoad.add (l : CredLoad) (slot : Nat × CredSlot) : CredLoad :=
  if (l.table.find? slot.2.id).isSome then { l with duplicates := l.duplicates.put slot.1 slot.2.id }
  else { l with table := l.table.put slot.2.id { slot := slot.1, record := slot.2.record } }

/-- Load every credential slot (R26, pass 1). -/
def loadCredentials (t : Table (Slot CredSlot)) : CredLoad :=
  (loadTable t).entries.foldl CredLoad.add { table := ⟨[]⟩, duplicates := ⟨[]⟩ }

/-- A unit stands as it is: it names no tenancy, or one that lists it (R26, pass 2). -/
def unitStands (tenancies : Table TenancyRec) (n : Nat) (u : UnitRec) : Bool :=
  match u.tenancy with
  | none => true
  | some t => (tenancies.find? t).any (fun r => r.units.contains n)

/-- Pass 2 on one unit (R26). -/
def reconcileUnit (tenancies : Table TenancyRec) (e : Nat × UnitRec) : Nat × UnitRec :=
  if unitStands tenancies e.1 e.2 then e else (e.1, { e.2 with state := .vacant, tenancy := none })

/-- A tenancy's listed unit is present and names the tenancy (R26, pass 3). -/
def unitNames (units : Table UnitRec) (tenancy n : Nat) : Bool := (units.find? n).any (fun u => u.tenancy == some tenancy)

/-- Pass 3 on one tenancy: units that do not name it are dropped, and an empty list makes it CLOSED (R26). -/
def reconcileTenancy (units : Table UnitRec) (e : Nat × TenancyRec) : Nat × TenancyRec :=
  if e.2.units.all (unitNames units e.1) then e
  else
    let left := e.2.units.filter (unitNames units e.1)
    (e.1, { e.2 with units := left, state := if left.isEmpty then .closed else e.2.state })

/-- Passes 2 and 3 of reconciliation (R26). -/
def Mirror.reconcile (m : Mirror) : Mirror :=
  let units : Table UnitRec := ⟨m.units.entries.map (reconcileUnit m.tenancies)⟩
  { m with units := units, tenancies := ⟨m.tenancies.entries.map (reconcileTenancy units)⟩ }

/-- The records that passes 2 and 3 change (R26). -/
def Mirror.reconciledCount (m : Mirror) : Nat :=
  (m.units.entries.filter (fun e => !unitStands m.tenancies e.1 e.2)).length
    + (m.tenancies.entries.filter (fun e => !e.2.units.all (unitNames m.reconcile.units e.1))).length

/-- The mirror as the slots load it, before passes 2 and 3 (R26). -/
def Slots.load (t : Slots) : Mirror where
  units := loadTable t.units
  tenancies := loadTable t.tenancies
  credentials := (loadCredentials t.credentials).table
  profiles := loadTable t.profiles
  holidays := (loaded t.holidays).getD []
  portals := Vector.ofFn (fun p => (loaded (t.portals.find? p.val)).getD PortalRec.initial)
  cars := Vector.ofFn (fun c => (loaded (t.cars.find? c.val)).getD CarRec.initial)
  siteLimit := (loaded t.site).getD siteLimitInitial

/-- The duplicate slots that restore notes (R26). -/
def Slots.duplicates (t : Slots) : Table Nat := (loadCredentials t.credentials).duplicates

/-- The reconciled count of a restore: each duplicate credential, unit and tenancy that reconciliation changes, once
(R26, log entry 20). -/
def Slots.reconciledCount (t : Slots) : Nat := t.duplicates.size + t.load.reconciledCount

/-! ## Programming (R10, R11, R23) -/

/-- The Store begins to program a list of slots. -/
def Store.begin (t : Store) (task : Task) (writes : List SlotWrite) : Store :=
  { t with phase := .programming, job := some { task := task, writes := writes, verified := 0, retry := false } }

/-- The Store takes a put or drop: it programs it, or keeps it waiting for a write-back in progress (R10). -/
def Store.takeRequest (t : Store) (writes : List SlotWrite) : Store :=
  match t.job with
  | none => t.begin .request writes
  | some _ => { t with waiting := some writes }

/-- Programming has ended: the Store is READY, or begins the put or drop that waits (R2, R10, R24). -/
def Store.finish (t : Store) : Store :=
  match t.waiting with
  | none => { t with phase := .ready, job := none }
  | some writes => { t with waiting := none }.begin .request writes

/-- Discard a credential's budget write-back mark (R16, R17, R23). -/
def Store.unmark (t : Store) (id : Nat) : Store := { t with marks := t.marks.filter (fun n => n != id) }

/-- Programming of the current slot: its content changes, and a credential slot that is written is no longer noted as a
duplicate (R1, R26). -/
def Store.program (t : Store) (agrees : Bool) (w : SlotWrite) : Store :=
  { t with
    slots := t.slots.program agrees w
    duplicates := match w with | .credential k _ => t.duplicates.erase k | _ => t.duplicates }

/-- The Office Port holds the reply of the put or drop and is free again (R11, R24, R174). -/
def State.releaseOffice (s : State) (r : ResultCode) : State :=
  { s with office := { s.office with busy := false, reply := some (Reply.refusal r) } }

/-! ## Taking up a changed mirror -/

/-- The id of a credential that has left the mirror is handed to the Roster, the Portal Controllers, the Car Units and
the Referral Queue, and its write-back mark is discarded (R17, R24). DESIGN CHOICE: R81 and R143 leave the order of the
removals free; the Roster's is first, so its ROSTER_DROPPED record stands before the CANCELLED records (log entry
32). -/
def State.handOff (s : State) (id : Nat) : State :=
  let t := (s.dropFromRoster id).dropMoves id
  let u := allCars.foldl (fun t c => t.modCar c (·.remove id)) t
  let v := u.cancelReferrals id
  { v with store := v.store.unmark id }

/-- The ids of the credentials that are present in one mirror and absent from another. -/
def goneIds (before after : Mirror) : List Nat :=
  (before.credentials.entries.filter (fun e => (after.credentials.find? e.1).isNone)).map (·.1)

/-- A put credential record: its mark is discarded, and the holder's roster entry takes the new tenancy if the put
changed the kind or the tenancy (R16). -/
def State.takeUpCredential (s : State) (before : Mirror) (r : CredSlot) : State :=
  let t := { s with store := s.store.unmark r.id }
  match before.credentials.find? r.id with
  | some old =>
    if old.record.kind = r.record.kind && old.record.tenancy = r.record.tenancy then t
    else t.modEntry r.id (fun e => { e with tenancy := r.record.tenancy })
  | none => t

/-- The owners of a completed write take it up (R16, R20, R21). -/
def takeUpWrite (before : Mirror) (s : State) (w : SlotWrite) : State :=
  match w with
  | .credential _ (some r) => s.takeUpCredential before r
  | .portal p _ => s.takeUpPortal p before.portals[p]
  | .car c r => s.modCar c (·.takeUp r)
  | .unit _ _ | .tenancy _ _ | .credential _ none | .profile _ _ | .holidays _ | .site _ => s

/-- A put or drop completes: the mirror takes every record at once, the owners take them up, the ids that have left are
handed over, the Store returns to READY and the Office Port holds OK (R11, R17). -/
def State.completeRequest (s : State) (writes : List SlotWrite) : State :=
  let before := s.store.mirror
  let t := s.modMirror (fun m => writes.foldl Mirror.take m)
  let u := writes.foldl (takeUpWrite before) t
  let v := (goneIds before t.store.mirror).foldl State.handOff u
  { v with store := v.store.finish }.releaseOffice .ok

/-! ## Store faults (R24) -/

/-- The credential table with one slot loaded as restore would: where another slot holds the id, the lower-numbered one
is kept (R24, R26). -/
def reloadCredential (slots : Slots) (m : Mirror) (k : Nat) : Mirror :=
  let table := m.dropSlot k
  match loaded (slots.credentials.find? k) with
  | none => { m with credentials := table }
  | some r =>
    match table.find? r.id with
    | some e =>
      if e.slot < k then { m with credentials := table }
      else { m with credentials := table.put r.id { slot := k, record := r.record } }
    | none => { m with credentials := table.put r.id { slot := k, record := r.record } }

/-- One slot that the failed request had written is loaded into the mirror as restore would (R24). -/
def reloadSlot (slots : Slots) (m : Mirror) : SlotWrite → Mirror
  | .unit n _ => { m with units := m.units.set n (loaded (slots.units.find? n)) }
  | .tenancy n _ => { m with tenancies := m.tenancies.set n (loaded (slots.tenancies.find? n)) }
  | .credential k _ => reloadCredential slots m k
  | .profile n _ => { m with profiles := m.profiles.set n (loaded (slots.profiles.find? n)) }
  | .holidays _ => { m with holidays := (loaded slots.holidays).getD [] }
  | .portal p _ =>
    { m with portals := m.portals.set p ((loaded (slots.portals.find? p.val)).getD PortalRec.initial) }
  | .car c _ => { m with cars := m.cars.set c ((loaded (slots.cars.find? c.val)).getD CarRec.initial) }
  | .site _ => { m with siteLimit := (loaded slots.site).getD siteLimitInitial }

/-- The mirror that a store fault rebuilds from the slots the request had written, reconciled (R24). -/
def State.rebuilt (s : State) (written : List SlotWrite) : Mirror :=
  (written.foldl (reloadSlot s.store.slots) s.store.mirror).reconcile

/-- Portals and cars whose records a rebuild changed take them up (R106, R132). -/
def State.takeUpChanged (s : State) (before : Mirror) : State :=
  let t := allPortals.foldl
    (fun t p => if before.portals[p] = s.store.mirror.portals[p] then t else t.takeUpPortal p before.portals[p]) s
  allCars.foldl (fun t c => t.modCar c (·.takeUp (t.carRec c))) t

/-- The STORE_FAULT record and flag (R24). -/
def State.noteFault (s : State) (id : Option Nat) (verified : Nat) : State :=
  (s.append { s.blankRecord .storeFault with id := id, count := some verified }).raise .office .storeFault

/-- A store fault of a put or drop: the mirror is rebuilt, the ids that have left it are handed over, the Office Port
holds STORE_FAULT and the Store returns to READY (R24). -/
def State.faultRequest (s : State) (j : Job) : State :=
  let before := s.store.mirror
  let t := s.modMirror (fun _ => s.rebuilt (j.writes.take (j.verified + 1)))
  let u := t.takeUpChanged before
  let v := (goneIds before t.store.mirror).foldl State.handOff u
  let w := { v with store := v.store.finish }.releaseOffice .storeFault
  w.noteFault none j.verified

/-- A budget write-back ends, verified or not: its mark leaves the list and the Store goes on (R23, R24). -/
def State.endWriteBack (s : State) (id : Nat) : State := { s with store := (s.store.unmark id).finish }

/-! ## SLOT_VERIFIED -/

/-- The current slot has verified: the next slot, or completion (R11, R23). -/
def State.slotAgrees (s : State) (j : Job) : State :=
  if j.verified + 1 < j.writes.length then
    { s with store := { s.store with job := some { j with verified := j.verified + 1, retry := false } } }
  else
    match j.task with
    | .request => s.completeRequest j.writes
    | .writeBack id => s.endWriteBack id

/-- The current slot has not verified: a second attempt, or a store fault (R11, R24). -/
def State.slotDisagrees (s : State) (j : Job) : State :=
  if !j.retry then { s with store := { s.store with job := some { j with retry := true } } }
  else
    match j.task with
    | .request => s.faultRequest j
    | .writeBack id => (s.endWriteBack id).noteFault (some id) 0

/-- A programming attempt ends with its verify (R11). -/
def State.slotVerified (s : State) (agrees : Bool) : State :=
  match s.store.job with
  | none => s
  | some j =>
    match j.writes[j.verified]? with
    | none => s
    | some w =>
      let t := { s with store := s.store.program agrees w }
      if agrees then t.slotAgrees j else t.slotDisagrees j

/-- The Store begins the oldest write-back while it is READY, STORE_WP is negated and the list is not empty (R23).
DESIGN CHOICE: R23 gives no time within which it begins; it begins at the command BUDGET_WRITE_BACK, no TICK begins it,
and a put may be taken first (log entry 31). -/
def State.writeBack (s : State) : State :=
  if s.store.phase = .ready && !s.pins.straps.storeWp then
    match s.store.marks with
    | [] => s
    | id :: _ =>
      match s.store.mirror.credentials.find? id with
      | none => { s with store := s.store.unmark id }
      | some e =>
        let w := SlotWrite.credential e.slot (some { id := id, record := e.record })
        { s with store := s.store.begin (.writeBack id) [w] }
  else s

/-! ## Puts and drops: their checks, and the slots they write -/

/-- The Store takes a put or drop, or refuses it with the first check that fails; STORE_WP comes first. A request that is
taken leaves the Office Port busy, with its reply to come (R10, R174). -/
def takePut (check : State → Except ResultCode (List SlotWrite)) (s : State) : State :=
  if s.acknowledges .office then
    let t := s.endFrame .office
    if s.pins.straps.storeWp then t.holdReply .office (Reply.refusal .writeProtected)
    else
      match check s with
      | .error r => t.holdReply .office (Reply.refusal r)
      | .ok writes => { t with store := t.store.takeRequest writes, office := { t.office with busy := true } }
  else s

/-- A unit is assigned: LET, OVERLOCKED or AUCTION_HOLD (R3). -/
def UnitState.assigned : UnitState → Bool
  | .rented | .overlocked | .auctionHold => true
  | .vacant | .maintenance => false

/-- The state changes PUT_UNIT may make, by the unit before it: an absent unit counts as unassigned (R12). -/
def unitChangeAllowed (before : Option UnitRec) (state : UnitState) : Bool :=
  match before with
  | none => !state.assigned
  | some u => u.state.assigned == state.assigned

/-- PUT_UNIT (R12). -/
def checkPutUnit (unit zone state : Nat) (s : State) : Except ResultCode (List SlotWrite) :=
  let before := s.store.mirror.units.find? unit
  match unitState? state with
  | none => .error .badValue
  | some st =>
    if inRange unit 0 4095 && inRange zone 1 15 && unitChangeAllowed before st then
      .ok [.unit unit { zone := zone, state := st, tenancy := before.bind (·.tenancy) }]
    else .error .badValue

/-- A listed unit may be held by the tenancy: it is VACANT, or assigned to it already (R13). -/
def unitFreeFor (tenancy : Nat) (u : UnitRec) : Bool :=
  u.state == .vacant || (u.state.assigned && u.tenancy == some tenancy)

/-- A unit's slot written VACANT with no tenancy and its zone unchanged (R14, R15). -/
def vacateWrite (m : Mirror) (n : Nat) : Option SlotWrite :=
  (m.units.find? n).map (fun u => .unit n { zone := u.zone, state := .vacant, tenancy := none })

/-- A unit's slot written LET to a tenancy with its zone unchanged (R14). -/
def assignWrite (m : Mirror) (tenancy n : Nat) : Option SlotWrite :=
  (m.units.find? n).map (fun u => .unit n { zone := u.zone, state := .rented, tenancy := some tenancy })

/-- The slots of a taken PUT_TENANCY: freed units, the tenancy, newly assigned units (R14). -/
def putTenancyWrites (m : Mirror) (n : Nat) (r : TenancyRec) : List SlotWrite :=
  let old := ((m.tenancies.find? n).map (·.units)).getD []
  (sortRising (old.filter (fun u => !r.units.contains u))).filterMap (vacateWrite m)
    ++ [.tenancy n (some r)]
    ++ (r.units.filter (fun u => !old.contains u)).filterMap (assignWrite m n)

/-- PUT_TENANCY (R13, R14). -/
def checkPutTenancy (tenancy state profile : Nat) (units : List Nat) (s : State) :
    Except ResultCode (List SlotWrite) :=
  let m := s.store.mirror
  match tenancyState? state with
  | none => .error .badValue
  | some st =>
    if !(inRange tenancy 0 1023 && inRange profile 0 15 && inRange units.length 1 8
        && units.all (fun u => inRange u 0 4095) && distinct units) then .error .badValue
    else if units.any (fun u => (m.units.find? u).isNone) then .error .notFound
    else if units.any (fun u => !(m.units.find? u).any (unitFreeFor tenancy)) then .error .conflict
    else .ok (putTenancyWrites m tenancy { state := st, profile := profile, units := sortRising units })

/-- How many credentials of the mirror, other than an id, name a tenancy (R4, R16). -/
def Mirror.namingCount (m : Mirror) (tenancy : Nat) (except : Option Nat) : Nat :=
  (m.credentials.entries.filter (fun e => e.2.record.tenancy == some tenancy && some e.1 != except)).length

/-- DROP_TENANCY (R15). -/
def checkDropTenancy (tenancy : Nat) (s : State) : Except ResultCode (List SlotWrite) :=
  let m := s.store.mirror
  if !inRange tenancy 0 1023 then .error .badValue
  else
    match m.tenancies.find? tenancy with
    | none => .error .notFound
    | some r =>
      if 0 < m.namingCount tenancy none then .error .inUse
      else .ok ((sortRising r.units).filterMap (vacateWrite m) ++ [.tenancy tenancy none])

/-- The lowest slot number, from a number on over so many slots, that is not in a list of used slots. -/
def lowestFree (used : List Nat) : Nat → Nat → Option Nat
  | 0, _ => none
  | fuel + 1, k => if used.contains k then lowestFree used fuel (k + 1) else some k

/-- The slot a new credential is written into: the lowest-numbered one that holds no record of the mirror (R16). -/
def Mirror.newSlot (m : Mirror) : Option Nat :=
  lowestFree (m.credentials.entries.map (·.2.slot)) Config.credentialCapacity 0

/-- The slot a put credential is written into: the one that holds the id, or a new one (R16). -/
def Mirror.slotFor (m : Mirror) (id : Nat) : Option Nat :=
  match m.credentials.find? id with
  | some e => some e.slot
  | none => if m.credentials.size < Config.credentialCapacity then m.newSlot else none

/-- PUT_CREDENTIAL (R16). -/
def checkPutCredential (o : CredentialOperands) (s : State) : Except ResultCode (List SlotWrite) :=
  let m := s.store.mirror
  match credRecOf o with
  | none => .error .badValue
  | some r =>
    if r.tenancy.any (fun t => (m.tenancies.find? t).isNone) then .error .notFound
    else if r.tenancy.any (fun t => decide (Config.credentialsPerTenancy ≤ m.namingCount t (some o.id))) then
      .error .full
    else
      match m.slotFor o.id with
      | none => .error .full
      | some k => .ok [.credential k (some { id := o.id, record := r })]

/-- DROP_CREDENTIAL: the credential's slot is erased, then every duplicate slot of the id in ascending number (R17). -/
def checkDropCredential (id : Nat) (s : State) : Except ResultCode (List SlotWrite) :=
  if !idInRange id then .error .badValue
  else
    match s.store.mirror.credentials.find? id with
    | none => .error .notFound
    | some e =>
      .ok (.credential e.slot none
        :: (s.store.duplicates.entries.filter (fun d => d.2 == id)).map (fun d => .credential d.1 none))

/-- PUT_PROFILE (R18). -/
def checkPutProfile (profile : Nat) (windows : List WindowOperand) (common : Set16) (grace : Nat) (_ : State) :
    Except ResultCode (List SlotWrite) :=
  match profileRecOf windows common grace with
  | none => .error .badValue
  | some r => if profile ≤ 14 then .ok [.profile profile r] else .error .badValue

/-- PUT_HOLIDAYS (R19). -/
def checkPutHolidays (days : List Nat) (_ : State) : Except ResultCode (List SlotWrite) :=
  if decide (days.length ≤ 24) && days.all (fun d => decide (d ≤ 65535)) && distinct days then
    .ok [.holidays (sortRising days)]
  else .error .badValue

/-- PUT_PORTAL (R20). -/
def checkPutPortal (portal : Nat) (o : PortalOperands) (_ : State) : Except ResultCode (List SlotWrite) :=
  match portal? portal, portalRecOf o with
  | some p, some r => .ok [.portal p r]
  | _, _ => .error .badValue

/-- PUT_CAR (R21). -/
def checkPutCar (car : Nat) (o : CarOperands) (_ : State) : Except ResultCode (List SlotWrite) :=
  match car? car, carRecOf o with
  | some c, some r => .ok [.car c r]
  | _, _ => .error .badValue

/-- PUT_SITE (R22). -/
def checkPutSite (limit : Nat) (_ : State) : Except ResultCode (List SlotWrite) :=
  if inRange limit 1 256 then .ok [.site limit] else .error .badValue

end Sys2Proof.Machine
end

