-- ==== Sys2Proof/Machine/Fire.lean ====
section
/-! DEFINITION. Fire: the Fire and Tamper Unit: its filters, the recognized fire state, onset, clear and recomputation,
and the tamper latch (Chapter 9). -/

namespace Sys2Proof.Machine

/-! ## The fire filter (R150) -/

/-- FIRE_IN is active: its level equals the active level (R150). -/
def State.fireInput (s : State) : Bool := s.pins.fireHigh == s.fire.activeHigh

/-- FIRE_IN is sampled: the part has power and RESET_N is negated, in restore as well (R150). -/
def State.sampling (s : State) : Bool := s.power.main && !s.power.resetAsserted

/-- The filter compares FIRE_IN with the fire state: it starts its timer where they differ and is idle where they agree
(R150). -/
def State.startFireFilter (s : State) : State :=
  { s with
    fire := { s.fire with filter := if s.fireInput = s.fire.active then none else some (s.after Config.fireTicks) } }

/-- FIRE_IN takes a level (R150). -/
def State.fireIn (s : State) (high : Bool) : State :=
  if s.pins.fireHigh = high then s
  else
    let t := { s with pins := { s.pins with fireHigh := high } }
    if s.sampling then t.startFireFilter else t

/-- The fire filter stands at the current tick. -/
def State.fireDue (s : State) : Bool := s.sampling && s.due s.fire.filter

/-! ## Onset and clear -/

/-- The fire state changes and its filter is idle again. -/
def State.setFire (s : State) (active : Bool) : State :=
  { s with fire := { s.fire with active := active, filter := none } }

/-- The egress-flagged portals of the mirror, ascending. -/
def State.egressPortals (s : State) : List (Fin 16) := allPortals.filter (fun p => (s.portalRec p).egress)

/-- The FIRE_ON record and the FIRE flags (R151, R154). -/
def State.noteFireOn (s : State) : State := (s.note .fireOn none (some s.egressPortals.length)).raiseBoth .fire

/-- The onset (R151); before restore completes the fire state alone changes (R154). -/
def State.fireStarts (s : State) : State :=
  let t := s.setFire true
  if s.running then s.egressPortals.foldl State.recomputeMode t.noteFireOn else t

/-- A fire clear is handed to a portal, which takes it in an event of its own (R153). -/
def awaitRecompute (s : State) (p : Fin 16) : State := s.modPortal p (fun q => { q with recompute := true })

/-- The clear (R153); before restore completes the fire state alone changes (R154). -/
def State.fireEnds (s : State) : State :=
  let t := s.setFire false
  if s.running then
    allPortals.foldl awaitRecompute ((t.markAll.note .fireOff none (some s.roster.length)).raiseBoth .fire)
  else t

/-- A portal has been handed a clear and has not taken it. -/
def State.recomputeDue (s : State) (p : Fin 16) : Bool := s.running && s.portals[p].recompute

/-- A portal takes the clear: it recomputes its effective mode from hold, held verdict and base mode (R153). -/
def State.takeClear (s : State) (p : Fin 16) : State :=
  (s.modPortal p (fun q => { q with recompute := false })).recomputeMode p

/-! ## Tamper -/

/-- TAMPER takes a level; the filter runs while the part runs and the latch is clear (R155). -/
def State.tamperIn (s : State) (asserted : Bool) : State :=
  if s.pins.tamper = asserted then s
  else
    let t := { s with pins := { s.pins with tamper := asserted } }
    if s.running && !s.fire.latch then
      { t with fire := { t.fire with tamperFilter := if asserted then some (s.after Config.tamperTicks) else none } }
    else t

/-- The tamper filter stands at the current tick. -/
def State.tamperDue (s : State) : Bool := s.running && s.due s.fire.tamperFilter

/-- The tamper latch sets, with its record and flags (R155). -/
def State.setLatch (s : State) : State :=
  ({ s with fire := { s.fire with latch := true, tamperFilter := none } }.note .tamper none none).raiseBoth .tamper

/-- The Office Port has cleared the TAMPER flag: a set latch clears if TAMPER is negated, and otherwise stays set with
the Office Port's flag raised again. A clear latch is left as it is (R156). -/
def State.clearLatch (s : State) : State :=
  if !s.fire.latch then s
  else if s.pins.tamper then s.raise .office .tamper
  else { s with fire := { s.fire with latch := false, tamperFilter := none } }

end Sys2Proof.Machine
end

