-- ==== Sys2Proof/Machine/Power.lean ====
section
/-! DEFINITION. Power: main power, VBAT, RESET_N and restore: what they stop, what survives them, and the reset condition
that every block takes at restore completion (R26, R27, R30, and the reset sections of every chapter). -/

namespace Sys2Proof.Machine

/-! ## Stopping -/

/-- Programming in progress stops at once; what the slot being programmed holds is a free value (R26, log entry 1). -/
def State.interruptProgramming (s : State) : State :=
  match s.store.job with
  | none => s
  | some j =>
    match j.writes[j.verified]? with
    | none => s
    | some w =>
      { s with
        store := { s.store with slots := s.store.slots.interrupt (Config.interruptedSlot s.freeCount) w }
        freeCount := s.freeCount + 1 }

/-- A boundary whose tick has come is taken by the clock alone, where no block takes it (R31). -/
def Clock.settle (k : Clock) : Clock := if k.boundaryDue then k.nextMinute else k

/-- Every block stops: mirror, write-back list, roster, portals, cars, queue, fire and tamper states, journal, flags,
frames and held replies are lost, and every timer is stopped. The slots, the clock domain, the pins and the sampled
straps stay (R26, R82, R109, R134, R149, R150, R155, R164, R170, R178). -/
def State.stopBlocks (s : State) : State :=
  { s with
    clock := s.clock.settle
    store :=
      { phase := .restoring, slots := s.store.slots, mirror := Mirror.empty, job := none, waiting := none, marks := [],
        duplicates := ⟨[]⟩ }
    roster := []
    portals := Vector.replicate 16 Portal.stopped
    cars := Vector.replicate 4 Car.stopped
    referrals := []
    ticketCounter := 1
    fire := { active := false, filter := none, activeHigh := s.fire.activeHigh, latch := false, tamperFilter := none }
    journal := []
    office := PortState.stopped s.office.address
    field := PortState.stopped s.field.address }

/-! ## Restore begins -/

/-- The address of the Office Port by its straps (R171). -/
def officeAddress (x : Straps) : Nat := 0x5C + 2 * x.oaddr1.toNat + x.oaddr0.toNat

/-- The address of the Field Port by its straps (R171). -/
def fieldAddress (x : Straps) : Nat := 0x64 + 2 * x.faddr1.toNat + x.faddr0.toNat

/-- The tick count starts from 0 (R29). -/
def State.restartTicks (s : State) : State := { s with clock := { s.clock with tick := 0 } }

/-- FIRE_POL and the address straps are sampled (R150, R171). -/
def State.sampleStraps (s : State) : State :=
  { s with
    fire := { s.fire with activeHigh := s.pins.straps.firePolHigh }
    office := { s.office with address := officeAddress s.pins.straps }
    field := { s.field with address := fieldAddress s.pins.straps } }

/-- Restore begins: the tick count starts from 0, the straps are sampled and the fire filter starts (R26, R29, R150,
R171). -/
def State.beginRestore (s : State) : State := s.restartTicks.sampleStraps.startFireFilter

/-! ## Main power and VBAT -/

/-- The clock at power-on: it goes on while its retention mark is intact, and otherwise starts at day 0, 00:00:00, UNSET
with the mark written again (R30). -/
def Clock.examine (k : Clock) : Clock :=
  if k.mark then k
  else { day := 0, minute := 0, second := 0, valid := false, phase := 0, tick := k.tick, mark := true, boundaryDue := false }

/-- Main power is applied: every block is stopped, the clock examines its mark, and restore begins unless RESET_N is
asserted (R26, R30, log entry 15). -/
def State.powerOn (s : State) : State :=
  if s.power.main then s
  else
    let t := { s.stopBlocks with
      power := { s.power with main := true }
      clock := s.clock.settle.examine }
    if s.power.resetAsserted then t.restartTicks else t.beginRestore

/-- The clock domain loses its power: time, clock state and mark are lost (R30, log entry 16). -/
def Clock.lose (k : Clock) : Clock :=
  { day := 0, minute := 0, second := 0, valid := false, phase := 0, tick := k.tick, mark := false, boundaryDue := false }

/-- The clock domain runs from main power, or from VBAT; with neither it loses what it holds (R30). -/
def State.supplyClock (s : State) : State :=
  if s.power.main || s.pins.straps.vbat then s else { s with clock := s.clock.lose }

/-- Main power fails: every block stops, and the clock goes on if VBAT holds (R26, R30). -/
def State.losePower (s : State) : State :=
  if s.power.main then
    State.supplyClock { s.interruptProgramming.stopBlocks with power := { s.power with main := false } }
  else s

/-- VBAT falls below what the clock domain needs: the domain loses its power where main power is absent, and will lose
it when main power fails where it is present (R30). -/
def State.loseVbat (s : State) : State :=
  State.supplyClock { s with pins := { s.pins with straps := { s.pins.straps with vbat := false } } }

/-! ## RESET_N -/

/-- RESET_N is asserted (R26). -/
def State.assertReset (s : State) : State :=
  if s.power.resetAsserted then s
  else { s.interruptProgramming.stopBlocks with power := { s.power with resetAsserted := true } }

/-- RESET_N is negated: restore begins if the part has power (R26). -/
def State.negateReset (s : State) : State :=
  if s.power.resetAsserted then
    let t := { s with power := { s.power with resetAsserted := false } }
    if s.power.main then t.beginRestore else t
  else s

/-! ## Restore completes -/

/-- The Store takes the restored and reconciled mirror and is READY (R26, R27). -/
def State.loadMirror (s : State) : State :=
  { s with
    store :=
      { s.store with
        phase := .ready, mirror := s.store.slots.load.reconcile, duplicates := s.store.slots.duplicates } }

/-- The START record (R164). -/
def State.noteStart (s : State) : State :=
  s.append
    { s.blankRecord .start with
      count := some s.store.slots.invalidCount, secondCount := some s.store.slots.reconciledCount }

/-- A Portal Controller begins (R109): its schedule is judged, its effective mode computed, its recognitions are unknown
with their debounce timers running, and its beam filter starts. -/
def State.startPortal (s : State) (p : Fin 16) : State :=
  let fitted := (s.portalRec p).leafSensor
  let t := s.modPortal p (fun _ =>
    { Portal.stopped with
      verdict := s.scheduleVerdict p
      position := if fitted then .unknown else .notSensed
      leafDebounce := if fitted then some (s.after Config.debounceTicks) else none
      exitDebounce := some (s.after Config.debounceTicks)
      beam := if (s.portalRec p).beam then s.beamStart p else .stopped })
  let mode := t.effectiveMode p
  t.modPortal p (fun q => { q with mode := mode, leaf := if mode = .free then .free else .secure })

/-- The tamper filter starts at restore completion (R155). -/
def State.startTamperFilter (s : State) : State :=
  { s with fire := { s.fire with tamperFilter := if s.pins.tamper then some (s.after Config.tamperTicks) else none } }

/-- Restore completes: the mirror is loaded and reconciled, START is appended, every portal begins, a FIRE_ON record and
the FIRE flags follow under fire, and the tamper filter starts (R27, R109, R154, R155, R164). -/
def State.completeRestore (s : State) : State :=
  if s.sampling && s.store.phase == .restoring then
    let t := allPortals.foldl State.startPortal s.loadMirror.noteStart
    (if s.fire.active then t.noteFireOn else t).startTamperFilter
  else s

end Sys2Proof.Machine
end

