-- ==== Sys2Proof/Machine/Reads.lean ====
section
/-! DEFINITION. Reads: the requests that report: READ_RECORD, READ_CAR, READ_STATUS, READ_EVENTS and TAKE_JOURNAL, with
CLEAR_EVENTS and SET_EVENT_MASK (R25, R133, R163, R167 to R169, R177, R180). Positions and presence bytes that the
layouts do not settle follow log entry 21. -/

namespace Sys2Proof.Machine

/-! ## READ_RECORD (R25) -/

/-- The record kinds, in the order of R25. -/
inductive RecordKind where
  | unit
  | tenancy
  | credential
  | credentialAt
  | profile
  | holidays
  | portal
  | car
  | site
  deriving DecidableEq, Repr

/-- The kind at a position (R25, R177). -/
def recordKind? : Nat → Option RecordKind
  | 0 => some .unit
  | 1 => some .tenancy
  | 2 => some .credential
  | 3 => some .credentialAt
  | 4 => some .profile
  | 5 => some .holidays
  | 6 => some .portal
  | 7 => some .car
  | 8 => some .site
  | _ => none

/-- Bytes of the key of a kind (R176). -/
def RecordKind.keyLength : RecordKind → Nat
  | .unit | .tenancy | .credentialAt => 2
  | .credential => 4
  | .profile | .portal | .car => 1
  | .holidays | .site => 0

/-- The key lies in the range of its kind (R25). -/
def RecordKind.keyInRange : RecordKind → Nat → Bool
  | .unit, k => decide (k ≤ 4095)
  | .tenancy, k => decide (k ≤ 1023)
  | .credential, k => idInRange k
  | .credentialAt, k => decide (k ≤ 2047)
  | .profile, k | .portal, k => decide (k ≤ 15)
  | .car, k => decide (k ≤ 3)
  | .holidays, _ | .site, _ => true

/-- On the Field Port, the length of the longest reply a withheld kind can have on the Office Port; none for the kinds
that are answered there as on the Office Port (R25). -/
def RecordKind.withheld : RecordKind → Option Nat
  | .unit => some 7
  | .tenancy => some 22
  | .credential | .credentialAt => some 15
  | .profile => some 34
  | .holidays => some 49
  | .portal | .car | .site => none

/-- The fields of a unit (R3). -/
def UnitRec.bytes (n : Nat) (u : UnitRec) : List Byte :=
  byte1 (presenceOf [u.tenancy.isSome]) ++ byte2 n ++ byte1 u.zone ++ byte1 u.state.code ++ optByte2 u.tenancy

/-- The fields of a tenancy, and the number of credentials naming it (R4, R25). -/
def TenancyRec.bytes (n credentials : Nat) (t : TenancyRec) : List Byte :=
  byte2 n ++ byte1 t.state.code ++ byte1 t.profile ++ byte1 t.units.length ++ byte2s t.units ++ byte1 credentials

/-- The fields of a credential (R5). -/
def CredRec.bytes (id : Nat) (r : CredRec) : List Byte :=
  byte1 (presenceOf
      [r.tenancy.isSome, r.expiry.isSome, r.budget.isSome, r.staffProfile.isSome, r.staffZones.isSome])
    ++ byte4 id ++ byte1 r.kind.code ++ byte1 r.status.code ++ optByte2 r.tenancy ++ optByte2 r.expiry
    ++ optByte1 r.budget ++ optByte1 r.staffProfile ++ optByte2 (r.staffZones.map BitVec.toNat)

/-- One window of a profile (R6); a set of day classes takes one byte. -/
def Window.bytes (w : Window) : List Byte := [w.classes] ++ byte2 w.openMinute ++ byte2 w.closeMinute

/-- The fields of a profile (R6). -/
def ProfileRec.bytes (r : ProfileRec) : List Byte :=
  byte1 r.windows.length ++ r.windows.flatMap Window.bytes ++ bytesOfSet r.common ++ byte1 r.grace

/-- The fields of the holiday list (R7). -/
def holidayBytes (days : List Nat) : List Byte := byte1 days.length ++ byte2s days

/-- The fields of a portal (R8). -/
def PortalRec.bytes (r : PortalRec) : List Byte :=
  byte1 (presenceOf [r.freeProfile.isSome, r.group.isSome]) ++ byte1 (yesNoCode r.enabled) ++ byte1 r.outer
    ++ byte1 r.inner ++ byte1 r.baseMode.code ++ optByte1 r.freeProfile ++ byte1 r.unlockCount
    ++ byte1 r.unlockBase.code ++ byte1 r.heldLimit ++ byte1 r.passback.code ++ byte1 (yesNoCode r.leafSensor)
    ++ byte1 (yesNoCode r.beam) ++ byte1 (yesNoCode r.exitButton) ++ byte1 (yesNoCode r.egress)
    ++ byte1 r.polarity.code ++ optByte1 (r.group.map (·.val)) ++ byte1 r.fallback.code ++ byte1 r.timeout

/-- The fields of a car (R9). -/
def CarRec.bytes (r : CarRec) : List Byte :=
  byte1 (yesNoCode r.enabled) ++ byte1 r.landings ++ byte1 r.zones.length ++ byte1s r.zones ++ byte1 r.home
    ++ byte1 r.mode.code ++ byte1 r.passback.code ++ byte1 r.window

/-- The reply bytes of a record whose key is in range, or none where the record is absent (R25). -/
def Mirror.recordBytes (m : Mirror) (kind : RecordKind) (key : Nat) : Option (List Byte) :=
  match kind with
  | .unit => (m.units.find? key).map (UnitRec.bytes key)
  | .tenancy => (m.tenancies.find? key).map (TenancyRec.bytes key (m.namingCount key none))
  | .credential => (m.credentials.find? key).map (fun e => e.record.bytes key)
  | .credentialAt => m.credentials.entries[key]?.map (fun e => e.2.record.bytes e.1)
  | .profile => some (profileOf m key).bytes
  | .holidays => some (holidayBytes m.holidays)
  | .portal => (portal? key).map (fun p => m.portals[p].bytes)
  | .car => (car? key).map (fun c => m.cars[c].bytes)
  | .site => some (byte2 m.siteLimit)

/-- What a port withholds of a kind (R25). -/
def withheldOn (p : Port) (kind : RecordKind) : Option Nat :=
  match p with
  | .office => none
  | .field => kind.withheld

/-- The reply to a READ_RECORD (R25). -/
def State.recordReply (s : State) (p : Port) (kind : RecordKind) (key : Nat) : Reply :=
  match withheldOn p kind with
  | some n => Reply.done (List.replicate n 0xFF)
  | none =>
    match s.store.mirror.recordBytes kind key with
    | some bytes => Reply.done bytes
    | none => Reply.refusal .notFound

/-- The owner's part of READ_RECORD (R25). -/
def readRecord (p : Port) (kind key : Nat) (s : State) : State × Reply :=
  match recordKind? kind with
  | none => (s, Reply.refusal .badValue)
  | some k => if k.keyInRange key then (s, s.recordReply p k key) else (s, Reply.refusal .badValue)

/-! ## READ_CAR (R133) -/

/-- A passenger of the reply. -/
def Passenger.bytes (q : Passenger) : List Byte := byte4 q.id ++ bytesOfSet q.landings

/-- The session remaining: ticks to the session expiry, 1 to 12,000; 0 while no session is open (R133, log entry
30). -/
def State.sessionLeft (s : State) (timer : Option Nat) : Nat :=
  match timer with
  | some e => ticksLeft 12000 s.clock.tick e
  | none => 0

/-- The reply bytes of READ_CAR (R133). DEDUCED: an unknown current landing travels as an absent optional item does, at
0xFF (R177, log entry 21). -/
def State.carBytes (s : State) (c : Fin 4) : List Byte :=
  let u := s.cars[c]
  byte1 c.val ++ byte1 (yesNoCode (s.carRec c).enabled) ++ byte1 (s.carRec c).mode.code ++ optByte1 u.landing
    ++ byte1 u.session.code ++ byte2 (s.sessionLeft u.timer) ++ byte1 u.passengers.length
    ++ u.passengers.flatMap Passenger.bytes

/-- The owner's part of READ_CAR (R133). -/
def readCar (car : Nat) (s : State) : State × Reply :=
  match car? car with
  | none => (s, Reply.refusal .badValue)
  | some c => (s, Reply.done (s.carBytes c))

/-! ## READ_STATUS (R169) -/

/-- Position of a store state: READY, PROGRAMMING (R169). -/
def storeCode (p : StorePhase) : Nat :=
  match p with
  | .programming => 1
  | .ready | .restoring => 0

/-- The interlock items of one group: PULLING before RELEASED, high before low (R169). -/
def State.groupBytes (s : State) (g : Fin 4) : List Byte :=
  byte1 (yesNoCode (s.pulling g)) ++ byte1 (yesNoCode (s.lineHigh g))

/-- The reply bytes of READ_STATUS (R169). -/
def State.statusBytes (s : State) : List Byte :=
  byte1 (storeCode s.store.phase) ++ byte1 (yesNoCode s.pins.straps.storeWp) ++ byte2 s.store.marks.length
    ++ byte1 (yesNoCode s.clock.valid) ++ byte2 s.clock.day ++ byte2 s.clock.minute ++ byte1 s.clock.second
    ++ byte1 s.fire.active.toNat ++ byte1 s.fire.latch.toNat ++ byte1 (yesNoCode s.alarming)
    ++ allCars.flatMap s.groupBytes ++ byte2 s.journal.length ++ byte2 s.roster.length ++ byte1 s.pendingArrivals
    ++ byte1 s.pendingReferrals.length ++ byte1 s.resolvedCount

/-- The owner's part of READ_STATUS (R169). -/
def readStatus (s : State) : State × Reply := (s, Reply.done s.statusBytes)

/-! ## Event flags (R167, R168) -/

/-- The owner's part of READ_EVENTS (R168). -/
def readEvents (p : Port) (s : State) : State × Reply :=
  (s, Reply.done (bytesOfSet (s.port p).flags ++ bytesOfSet (s.port p).mask))

/-- A set of flags names TAMPER. -/
def namesTamper (flags : Set16) : Bool := flags.getLsbD Flag.tamper.code

/-- The named flags of a port are cleared; on the Office Port a set that names TAMPER tries the latch (R156, R168). -/
def State.clearFlags (s : State) (p : Port) (flags : Set16) : State :=
  let t := s.modPort p (fun q => { q with flags := q.flags &&& ~~~flags })
  match p with
  | .office => if namesTamper flags then t.clearLatch else t
  | .field => t

/-- The owner's part of CLEAR_EVENTS (R168). -/
def clearEvents (p : Port) (flags : Set16) (s : State) : State × Reply :=
  if flagsAllowed p flags then
    (s.clearFlags p flags, Reply.done (bytesOfSet ((s.clearFlags p flags).port p).flags))
  else (s, Reply.refusal .badValue)

/-- The owner's part of SET_EVENT_MASK (R167). -/
def setEventMask (p : Port) (mask : Set16) (s : State) : State × Reply :=
  if flagsAllowed p mask then (s.modPort p (fun q => { q with mask := mask }), Reply.done (bytesOfSet mask))
  else (s, Reply.refusal .badValue)

/-! ## TAKE_JOURNAL (R163, R180) -/

/-- The 19 bytes of a journal record (R180). -/
def Record.bytes (r : Record) : List Byte :=
  byte1 r.kind.code ++ byte1 (presenceOf [r.gap, r.count.isSome, r.reason.isSome]) ++ byte2 r.day ++ byte2 r.minute
    ++ byte1 r.second ++ optByte1 r.subject ++ byte4 (r.id.getD 0) ++ byte1 ((r.outcome.map JournalOutcome.code).getD 0)
    ++ byte1 ((r.reason.map Reason.code).getD 0xFF) ++ byte2 (r.count.getD 0xFFFF) ++ byte2 (r.secondCount.getD 0)
    ++ byte1 (r.ticket.getD 0)

/-- The owner's part of TAKE_JOURNAL (R163). -/
def takeJournal (n : Nat) (s : State) : State × Reply :=
  if inRange n 1 8 then
    let taken := s.journal.take n
    let left := s.journal.drop n
    ({ s with journal := left },
      Reply.done (byte1 taken.length ++ byte2 left.length ++ taken.flatMap Record.bytes))
  else (s, Reply.refusal .badValue)

end Sys2Proof.Machine
end

