-- ==== Sys2Proof/Machine/Requests.lean ====
section
/-! DEFINITION. Requests: the meaning of each request of the catalogue (R176): a request of a port is performed by the
owner its rule names, and a put or drop is taken by the Store. A request that its port does not acknowledge changes
nothing (R171, log entry 12). -/

namespace Sys2Proof.Machine

/-- PRESENT (R41). -/
def execPresent (reader id : Nat) (s : State) : Host.Outcome State Fault Refusal :=
  done (request .field s (present reader id))

/-- WITHDRAW (R144). -/
def execWithdraw (ticket : Nat) (s : State) : Host.Outcome State Fault Refusal :=
  done (request .field s (withdraw ticket))

/-- TAKE_OUTCOME (R145). -/
def execTakeOutcome (ticket : Nat) (s : State) : Host.Outcome State Fault Refusal :=
  done (request .field s (takeOutcome ticket))

/-- CAR_ARRIVAL (R123). -/
def execCarArrival (car landing : Nat) (s : State) : Host.Outcome State Fault Refusal :=
  done (request .field s (carArrival car landing))

/-- PUT_UNIT (R10, R12). -/
def execPutUnit (unit zone state : Nat) (s : State) : Host.Outcome State Fault Refusal :=
  done (takePut (checkPutUnit unit zone state) s)

/-- PUT_TENANCY (R10, R13, R14). -/
def execPutTenancy (tenancy state profile : Nat) (units : List Nat) (s : State) : Host.Outcome State Fault Refusal :=
  done (takePut (checkPutTenancy tenancy state profile units) s)

/-- DROP_TENANCY (R10, R15). -/
def execDropTenancy (tenancy : Nat) (s : State) : Host.Outcome State Fault Refusal :=
  done (takePut (checkDropTenancy tenancy) s)

/-- PUT_CREDENTIAL (R10, R16). -/
def execPutCredential (o : CredentialOperands) (s : State) : Host.Outcome State Fault Refusal :=
  done (takePut (checkPutCredential o) s)

/-- DROP_CREDENTIAL (R10, R17). -/
def execDropCredential (id : Nat) (s : State) : Host.Outcome State Fault Refusal :=
  done (takePut (checkDropCredential id) s)

/-- PUT_PROFILE (R10, R18). -/
def execPutProfile (profile : Nat) (windows : List WindowOperand) (common : Set16) (grace : Nat) (s : State) :
    Host.Outcome State Fault Refusal :=
  done (takePut (checkPutProfile profile windows common grace) s)

/-- PUT_HOLIDAYS (R10, R19). -/
def execPutHolidays (days : List Nat) (s : State) : Host.Outcome State Fault Refusal :=
  done (takePut (checkPutHolidays days) s)

/-- PUT_PORTAL (R10, R20). -/
def execPutPortal (portal : Nat) (o : PortalOperands) (s : State) : Host.Outcome State Fault Refusal :=
  done (takePut (checkPutPortal portal o) s)

/-- PUT_CAR (R10, R21). -/
def execPutCar (car : Nat) (o : CarOperands) (s : State) : Host.Outcome State Fault Refusal :=
  done (takePut (checkPutCar car o) s)

/-- PUT_SITE (R10, R22). -/
def execPutSite (limit : Nat) (s : State) : Host.Outcome State Fault Refusal := done (takePut (checkPutSite limit) s)

/-- SET_CLOCK (R32, R33). -/
def execSetClock (day minute second : Nat) (s : State) : Host.Outcome State Fault Refusal :=
  done (request .office s (setClock day minute second))

/-- HOLD_MODE (R104). -/
def execHoldMode (portal mode : Nat) (s : State) : Host.Outcome State Fault Refusal :=
  done (request .office s (holdMode portal mode))

/-- RELEASE_HOLD (R105). -/
def execReleaseHold (portal : Nat) (s : State) : Host.Outcome State Fault Refusal :=
  done (request .office s (releaseHold portal))

/-- ANSWER_REFERRAL (R139, R140). -/
def execAnswerReferral (ticket id verdict : Nat) (s : State) : Host.Outcome State Fault Refusal :=
  done (request .office s (answerReferral ticket id verdict))

/-- LIST_REFERRALS (R146). -/
def execListReferrals (s : State) : Host.Outcome State Fault Refusal := done (request .office s listReferrals)

/-- TAKE_JOURNAL (R163). -/
def execTakeJournal (n : Nat) (s : State) : Host.Outcome State Fault Refusal := done (request .office s (takeJournal n))

/-- READ_ROSTER (R78). -/
def execReadRoster (start : Nat) (s : State) : Host.Outcome State Fault Refusal :=
  done (request .office s (readRoster start))

/-- DROP_ROSTER_ENTRY (R79). -/
def execDropRosterEntry (id : Nat) (s : State) : Host.Outcome State Fault Refusal :=
  done (request .office s (dropRosterEntry id))

/-- CLEAR_ROSTER (R80). -/
def execClearRoster (s : State) : Host.Outcome State Fault Refusal := done (request .office s clearRoster)

/-- READ_RECORD (R25). -/
def execReadRecord (port : Port) (kind key : Nat) (s : State) : Host.Outcome State Fault Refusal :=
  done (request port s (readRecord port kind key))

/-- READ_PORTAL (R107). -/
def execReadPortal (port : Port) (portal : Nat) (s : State) : Host.Outcome State Fault Refusal :=
  done (request port s (readPortal portal))

/-- READ_CAR (R133). -/
def execReadCar (port : Port) (car : Nat) (s : State) : Host.Outcome State Fault Refusal :=
  done (request port s (readCar car))

/-- READ_STATUS (R169). -/
def execReadStatus (port : Port) (s : State) : Host.Outcome State Fault Refusal := done (request port s readStatus)

/-- READ_EVENTS (R168). -/
def execReadEvents (port : Port) (s : State) : Host.Outcome State Fault Refusal :=
  done (request port s (readEvents port))

/-- CLEAR_EVENTS (R156, R168). -/
def execClearEvents (port : Port) (flags : Set16) (s : State) : Host.Outcome State Fault Refusal :=
  done (request port s (clearEvents port flags))

/-- SET_EVENT_MASK (R167). -/
def execSetEventMask (port : Port) (mask : Set16) (s : State) : Host.Outcome State Fault Refusal :=
  done (request port s (setEventMask port mask))

end Sys2Proof.Machine
end

