-- ==== Sys2Proof/Machine/Frames.lean ====
section
/-! DEFINITION. Frames: the two-wire framing of the ports: how a request is laid out in a write frame, how a write frame
is judged, and what a read frame sends (R171 to R177). -/

namespace Sys2Proof.Machine

/-! ## Laying out a request (R172, R176) -/

/-- The five bytes of a window (R176). -/
def windowOperandBytes (w : WindowOperand) : List Byte := [w.classes] ++ byte2 w.openMinute ++ byte2 w.closeMinute

/-- The bytes of an operand that a presence operand names, none where it is absent (R176). -/
def presentBytes (width : Nat → List Byte) (x : Option Nat) : List Byte := (x.map width).getD []

/-- The presence operand of PUT_CREDENTIAL (R176). -/
def credentialPresence (o : CredentialOperands) : Nat :=
  presenceOf [o.tenancy.isSome, o.expiry.isSome, o.budget.isSome, o.staffProfile.isSome, o.staffZones.isSome]
    + 32 * o.reserved

/-- The operand bytes of PUT_CREDENTIAL (R16, R176). -/
def credentialOperandBytes (o : CredentialOperands) : List Byte :=
  byte4 o.id ++ byte1 o.kind ++ byte1 o.status ++ byte1 (credentialPresence o) ++ presentBytes byte2 o.tenancy
    ++ presentBytes byte2 o.expiry ++ presentBytes byte1 o.budget ++ presentBytes byte1 o.staffProfile
    ++ presentBytes byte2 (o.staffZones.map BitVec.toNat)

/-- The fields of PUT_PORTAL (R8, R176). -/
def portalOperandBytes (o : PortalOperands) : List Byte :=
  byte1s [o.enabled, o.outer, o.inner, o.baseMode, o.freeProfile, o.unlockCount, o.unlockBase, o.heldLimit, o.passback,
    o.leafSensor, o.beam, o.exitButton, o.egress, o.polarity, o.group, o.fallback, o.timeout]

/-- The fields of PUT_CAR, with the announced length of the zone list before it (R9, R176). -/
def carOperandBytes (o : CarOperands) : List Byte :=
  byte1s [o.enabled, o.landings, o.zones.length] ++ byte1s o.zones ++ byte1s [o.home, o.mode, o.passback, o.window]

/-- A key in so many bytes (R176). -/
def keyBytes (length key : Nat) : List Byte :=
  match length with
  | 0 => []
  | 1 => byte1 key
  | 2 => byte2 key
  | _ => byte4 key

/-- The code and operand bytes of a request; none for a command that is no request of the catalogue (R176). -/
def requestBytes : Instr → Option (Nat × List Byte)
  | .present reader id => some (0x01, byte1 reader ++ byte4 id)
  | .withdraw ticket => some (0x02, byte1 ticket)
  | .takeOutcome ticket => some (0x03, byte1 ticket)
  | .carArrival car landing => some (0x04, byte1 car ++ byte1 landing)
  | .putUnit unit zone state => some (0x10, byte2 unit ++ byte1 zone ++ byte1 state)
  | .putTenancy tenancy state profile units =>
    some (0x11, byte2 tenancy ++ byte1 state ++ byte1 profile ++ byte1 units.length ++ byte2s units)
  | .dropTenancy tenancy => some (0x12, byte2 tenancy)
  | .putCredential o => some (0x13, credentialOperandBytes o)
  | .dropCredential id => some (0x14, byte4 id)
  | .putProfile profile windows common grace =>
    some (0x15, byte1 profile ++ byte1 windows.length ++ windows.flatMap windowOperandBytes ++ bytesOfSet common
      ++ byte1 grace)
  | .putHolidays days => some (0x16, byte1 days.length ++ byte2s days)
  | .putPortal portal o => some (0x17, byte1 portal ++ portalOperandBytes o)
  | .putCar car o => some (0x18, byte1 car ++ carOperandBytes o)
  | .putSite limit => some (0x19, byte2 limit)
  | .setClock day minute second => some (0x20, byte2 day ++ byte2 minute ++ byte1 second)
  | .holdMode portal mode => some (0x21, byte1 portal ++ byte1 mode)
  | .releaseHold portal => some (0x22, byte1 portal)
  | .answerReferral ticket id verdict => some (0x23, byte1 ticket ++ byte4 id ++ byte1 verdict)
  | .listReferrals => some (0x24, [])
  | .takeJournal n => some (0x25, byte1 n)
  | .readRoster start => some (0x26, byte1 start)
  | .dropRosterEntry id => some (0x27, byte4 id)
  | .clearRoster => some (0x28, [])
  | .readRecord _ kind key =>
    some (0x30, byte1 kind ++ keyBytes (((recordKind? kind).map RecordKind.keyLength).getD 0) key)
  | .readPortal _ portal => some (0x31, byte1 portal)
  | .readCar _ car => some (0x32, byte1 car)
  | .readStatus _ => some (0x33, [])
  | .readEvents _ => some (0x34, [])
  | .clearEvents _ flags => some (0x35, bytesOfSet flags)
  | .setEventMask _ mask => some (0x36, bytesOfSet mask)
  | .powerOn | .mainPowerLoss | .vbatLoss | .resetAssert | .resetNegate | .restoreComplete | .minuteBoundary
  | .slotVerified _ | .budgetWriteBack | .writeFrame _ _ | .readFrame _ _ _ | .frameTimeout _ | .leafLineChange _ _
  | .leafOpenRecognized _ | .leafClosedRecognized _ | .exitLineChange _ _ | .exitPress _ | .exitReleaseRecognized _
  | .unlockExpiry _ | .heldTimerExpiry _ | .beamBreak _ | .beamClear _ | .qualifyingInterruption _
  | .beamRearmExpiry _ | .referralDeadline _ | .sessionTimerExpiry _ | .fireInChange _ | .fireOnset | .fireClear
  | .fireClearRecomputation _ | .tamperLineChange _ | .tamperLatchSet | .tick _ | .frameStart _ _
  | .discardingEnd _ => none

/-- The port on which a request is sent; none for a command that is no request (R176). -/
def requestPort : Instr → Option Port
  | .present _ _ | .withdraw _ | .takeOutcome _ | .carArrival _ _ => some .field
  | .putUnit _ _ _ | .putTenancy _ _ _ _ | .dropTenancy _ | .putCredential _ | .dropCredential _ | .putProfile _ _ _ _
  | .putHolidays _ | .putPortal _ _ | .putCar _ _ | .putSite _ | .setClock _ _ _ | .holdMode _ _ | .releaseHold _
  | .answerReferral _ _ _ | .listReferrals | .takeJournal _ | .readRoster _ | .dropRosterEntry _ | .clearRoster =>
    some .office
  | .readRecord p _ _ | .readPortal p _ | .readCar p _ | .readStatus p | .readEvents p | .clearEvents p _
  | .setEventMask p _ => some p
  | .powerOn | .mainPowerLoss | .vbatLoss | .resetAssert | .resetNegate | .restoreComplete | .minuteBoundary
  | .slotVerified _ | .budgetWriteBack | .writeFrame _ _ | .readFrame _ _ _ | .frameTimeout _ | .leafLineChange _ _
  | .leafOpenRecognized _ | .leafClosedRecognized _ | .exitLineChange _ _ | .exitPress _ | .exitReleaseRecognized _
  | .unlockExpiry _ | .heldTimerExpiry _ | .beamBreak _ | .beamClear _ | .qualifyingInterruption _
  | .beamRearmExpiry _ | .referralDeadline _ | .sessionTimerExpiry _ | .fireInChange _ | .fireOnset | .fireClear
  | .fireClearRecomputation _ | .tamperLineChange _ | .tamperLatchSet | .tick _ | .frameStart _ _
  | .discardingEnd _ => none

/-- The sum of bytes modulo 256 (R172). -/
def sumOf : List Byte → Byte
  | [] => 0
  | b :: rest => b + sumOf rest

/-- Bytes followed by the check byte that makes their sum 0 (R172, R175). -/
def withCheck (l : List Byte) : List Byte := l ++ [-(sumOf l)]

/-- The write frame of a code and its operands (R172). -/
def frameOf (code : Nat) (operands : List Byte) : List Byte :=
  withCheck ([BitVec.ofNat 8 code, BitVec.ofNat 8 operands.length] ++ operands)

/-- The write frame of a request. -/
def requestFrame (i : Instr) : Option (List Byte) := (requestBytes i).map (fun r => frameOf r.1 r.2)

/-! ## Reading the operands of a frame (R173 step 6, R176) -/

/-- Two-byte numbers in a row. -/
def numbers2 : List Byte → List Nat
  | a :: b :: rest => fromBytes [a, b] :: numbers2 rest
  | _ => []

/-- One-byte numbers in a row. -/
def numbers1 (l : List Byte) : List Nat := l.map BitVec.toNat

/-- Windows in a row. -/
def windowsFrom : List Byte → List WindowOperand
  | c :: o1 :: o0 :: e1 :: e0 :: rest =>
    { classes := c, openMinute := fromBytes [o1, o0], closeMinute := fromBytes [e1, e0] } :: windowsFrom rest
  | _ => []

/-- A set from its two bytes. -/
def setOf (hi lo : Byte) : Set16 := BitVec.ofNat 16 (fromBytes [hi, lo])

/-- An operand that the presence operand names or not, with the bytes that follow it; none where the bytes end too
early. -/
def takeOptional (named : Bool) (width : Nat) (l : List Byte) : Option (Option Nat × List Byte) :=
  if named then if width ≤ l.length then some (some (fromBytes (l.take width)), l.drop width) else none
  else some (none, l)

/-- The operands of PUT_CREDENTIAL. -/
def credentialFrom : List Byte → Option CredentialOperands
  | i3 :: i2 :: i1 :: i0 :: kind :: status :: presence :: rest => do
    let (tenancy, rest) ← takeOptional (presence.getLsbD 0) 2 rest
    let (expiry, rest) ← takeOptional (presence.getLsbD 1) 2 rest
    let (budget, rest) ← takeOptional (presence.getLsbD 2) 1 rest
    let (staffProfile, rest) ← takeOptional (presence.getLsbD 3) 1 rest
    let (staffZones, rest) ← takeOptional (presence.getLsbD 4) 2 rest
    if rest.isEmpty then
      some
        { id := fromBytes [i3, i2, i1, i0], kind := kind.toNat, status := status.toNat, tenancy := tenancy,
          expiry := expiry, budget := budget, staffProfile := staffProfile,
          staffZones := staffZones.map (BitVec.ofNat 16), reserved := presence.toNat / 32 }
    else none
  | _ => none

/-- The operands of PUT_PORTAL after the portal number. -/
def portalFrom : List Byte → Option PortalOperands
  | [enabled, outer, inner, baseMode, freeProfile, unlockCount, unlockBase, heldLimit, passback, leafSensor, beam,
      exitButton, egress, polarity, group, fallback, timeout] =>
    some
      { enabled := enabled.toNat, outer := outer.toNat, inner := inner.toNat, baseMode := baseMode.toNat,
        freeProfile := freeProfile.toNat, unlockCount := unlockCount.toNat, unlockBase := unlockBase.toNat,
        heldLimit := heldLimit.toNat, passback := passback.toNat, leafSensor := leafSensor.toNat, beam := beam.toNat,
        exitButton := exitButton.toNat, egress := egress.toNat, polarity := polarity.toNat, group := group.toNat,
        fallback := fallback.toNat, timeout := timeout.toNat }
  | _ => none

/-- The operands of PUT_CAR after the car number. -/
def carFrom : List Byte → Option CarOperands
  | enabled :: landings :: length :: rest =>
    match rest.drop length.toNat with
    | [home, mode, passback, window] =>
      some
        { enabled := enabled.toNat, landings := landings.toNat, zones := numbers1 (rest.take length.toNat),
          home := home.toNat, mode := mode.toNat, passback := passback.toNat, window := window.toNat }
    | _ => none
  | _ => none

/-- PUT_PROFILE from its operands. -/
def profileFrom : List Byte → Option Instr
  | profile :: length :: rest =>
    match rest.drop (5 * length.toNat) with
    | [z1, z0, grace] =>
      some (.putProfile profile.toNat (windowsFrom (rest.take (5 * length.toNat))) (setOf z1 z0) grace.toNat)
    | _ => none
  | _ => none

/-- READ_RECORD from its operands; a kind that names no kind passes whatever follows it (R176). -/
def recordFrom (p : Port) : List Byte → Option Instr
  | kind :: key =>
    match recordKind? kind.toNat with
    | none => some (.readRecord p kind.toNat 0)
    | some k => if key.length = k.keyLength then some (.readRecord p kind.toNat (fromBytes key)) else none
  | [] => none

/-- The request of a catalogued code with these operands, or none where the operand count is not the one the catalogue
gives (R173 step 6, R176). -/
def requestFrom (p : Port) (code : Nat) (l : List Byte) : Option Instr :=
  match code, l with
  | 0x01, [r, i3, i2, i1, i0] => some (.present r.toNat (fromBytes [i3, i2, i1, i0]))
  | 0x02, [t] => some (.withdraw t.toNat)
  | 0x03, [t] => some (.takeOutcome t.toNat)
  | 0x04, [c, n] => some (.carArrival c.toNat n.toNat)
  | 0x10, [u1, u0, z, st] => some (.putUnit (fromBytes [u1, u0]) z.toNat st.toNat)
  | 0x11, t1 :: t0 :: st :: pr :: n :: rest =>
    if rest.length = 2 * n.toNat then some (.putTenancy (fromBytes [t1, t0]) st.toNat pr.toNat (numbers2 rest)) else none
  | 0x12, [t1, t0] => some (.dropTenancy (fromBytes [t1, t0]))
  | 0x13, _ => (credentialFrom l).map .putCredential
  | 0x14, [i3, i2, i1, i0] => some (.dropCredential (fromBytes [i3, i2, i1, i0]))
  | 0x15, _ => profileFrom l
  | 0x16, n :: rest => if rest.length = 2 * n.toNat then some (.putHolidays (numbers2 rest)) else none
  | 0x17, q :: rest => (portalFrom rest).map (.putPortal q.toNat)
  | 0x18, c :: rest => (carFrom rest).map (.putCar c.toNat)
  | 0x19, [n1, n0] => some (.putSite (fromBytes [n1, n0]))
  | 0x20, [d1, d0, m1, m0, sec] => some (.setClock (fromBytes [d1, d0]) (fromBytes [m1, m0]) sec.toNat)
  | 0x21, [q, m] => some (.holdMode q.toNat m.toNat)
  | 0x22, [q] => some (.releaseHold q.toNat)
  | 0x23, [t, i3, i2, i1, i0, v] => some (.answerReferral t.toNat (fromBytes [i3, i2, i1, i0]) v.toNat)
  | 0x24, [] => some .listReferrals
  | 0x25, [n] => some (.takeJournal n.toNat)
  | 0x26, [n] => some (.readRoster n.toNat)
  | 0x27, [i3, i2, i1, i0] => some (.dropRosterEntry (fromBytes [i3, i2, i1, i0]))
  | 0x28, [] => some .clearRoster
  | 0x30, _ => recordFrom p l
  | 0x31, [q] => some (.readPortal p q.toNat)
  | 0x32, [c] => some (.readCar p c.toNat)
  | 0x33, [] => some (.readStatus p)
  | 0x34, [] => some (.readEvents p)
  | 0x35, [f1, f0] => some (.clearEvents p (setOf f1 f0))
  | 0x36, [f1, f0] => some (.setEventMask p (setOf f1 f0))
  | _, _ => none

/-! ## Judging a write frame (R173) -/

/-- The ports on which a code of the catalogue is permitted; none for a code outside it (R176). -/
def codePorts (code : Nat) : Option (List Port) :=
  if inRange code 0x01 0x04 then some [.field]
  else if inRange code 0x10 0x19 || inRange code 0x20 0x28 then some [.office]
  else if inRange code 0x30 0x36 then some [.office, .field]
  else none

/-- How a write frame is judged. -/
inductive FrameVerdict where
  | empty
  | refused (r : ResultCode)
  | request (i : Instr)
  deriving DecidableEq, Repr

/-- Steps 4 to 6 (R173). -/
def judgeRequest (p : Port) (code : Nat) (operands : List Byte) : FrameVerdict :=
  match codePorts code with
  | none => .refused .unknownRequest
  | some ports =>
    if !ports.contains p then .refused .notPermitted
    else
      match requestFrom p code operands with
      | none => .refused .badLength
      | some i => .request i

/-- The six steps by which a port judges a write frame; the first that fails decides (R173). -/
def judgeFrame (p : Port) (bytes : List Byte) : FrameVerdict :=
  match bytes with
  | [] => .empty
  | [_] => .refused .badLength
  | code :: n :: rest =>
    if Config.frameBufferCapacity < bytes.length || rest.length != n.toNat + 1 || Config.operandCapacity < n.toNat then
      .refused .badLength
    else if sumOf bytes != 0 then .refused .check
    else judgeRequest p code.toNat rest.dropLast

/-! ## WRITE_FRAME -/

/-- Perform a request that a frame spells, by its own meaning (R174). -/
def performRequest (i : Instr) (s : State) : Host.Outcome State Fault Refusal :=
  match i with
  | .present reader id => execPresent reader id s
  | .withdraw ticket => execWithdraw ticket s
  | .takeOutcome ticket => execTakeOutcome ticket s
  | .carArrival car landing => execCarArrival car landing s
  | .putUnit unit zone state => execPutUnit unit zone state s
  | .putTenancy tenancy state profile units => execPutTenancy tenancy state profile units s
  | .dropTenancy tenancy => execDropTenancy tenancy s
  | .putCredential o => execPutCredential o s
  | .dropCredential id => execDropCredential id s
  | .putProfile profile windows common grace => execPutProfile profile windows common grace s
  | .putHolidays days => execPutHolidays days s
  | .putPortal portal o => execPutPortal portal o s
  | .putCar car o => execPutCar car o s
  | .putSite limit => execPutSite limit s
  | .setClock day minute second => execSetClock day minute second s
  | .holdMode portal mode => execHoldMode portal mode s
  | .releaseHold portal => execReleaseHold portal s
  | .answerReferral ticket id verdict => execAnswerReferral ticket id verdict s
  | .listReferrals => execListReferrals s
  | .takeJournal n => execTakeJournal n s
  | .readRoster start => execReadRoster start s
  | .dropRosterEntry id => execDropRosterEntry id s
  | .clearRoster => execClearRoster s
  | .readRecord port kind key => execReadRecord port kind key s
  | .readPortal port portal => execReadPortal port portal s
  | .readCar port car => execReadCar port car s
  | .readStatus port => execReadStatus port s
  | .readEvents port => execReadEvents port s
  | .clearEvents port flags => execClearEvents port flags s
  | .setEventMask port mask => execSetEventMask port mask s
  -- no frame spells the others
  | .powerOn | .mainPowerLoss | .vbatLoss | .resetAssert | .resetNegate | .restoreComplete | .minuteBoundary
  | .slotVerified _ | .budgetWriteBack | .writeFrame _ _ | .readFrame _ _ _ | .frameTimeout _ | .leafLineChange _ _
  | .leafOpenRecognized _ | .leafClosedRecognized _ | .exitLineChange _ _ | .exitPress _ | .exitReleaseRecognized _
  | .unlockExpiry _ | .heldTimerExpiry _ | .beamBreak _ | .beamClear _ | .qualifyingInterruption _
  | .beamRearmExpiry _ | .referralDeadline _ | .sessionTimerExpiry _ | .fireInChange _ | .fireOnset | .fireClear
  | .fireClearRecomputation _ | .tamperLineChange _ | .tamperLatchSet | .tick _ | .frameStart _ _
  | .discardingEnd _ => done s

/-- A frame is refused: nothing is performed, the port holds the result code, and a bad check byte raises CHECK on the
port's own flags (R173). -/
def State.refuseFrame (s : State) (p : Port) (r : ResultCode) : State :=
  let t := (s.endFrame p).holdReply p (Reply.refusal r)
  if r = .check then t.raise p .check else t

/-- WRITE_FRAME (R172, R173): a write frame of these bytes ends on a port that acknowledged its address, and is judged. -/
def execWriteFrame (port : Port) (bytes : List Byte) (s : State) : Host.Outcome State Fault Refusal :=
  if s.acknowledges port then
    match judgeFrame port bytes with
    | .empty => done (s.endFrame port)
    | .refused r => done (s.refuseFrame port r)
    | .request i => performRequest i s
  else done s

/-! ## READ_FRAME (R175) -/

/-- The bytes of a reply: result code, reply length, reply bytes, check byte (R175). -/
def Reply.frame (r : Reply) : List Byte :=
  withCheck ([BitVec.ofNat 8 r.result.code, BitVec.ofNat 8 r.bytes.length] ++ r.bytes)

/-- What a read returns: the held reply, or UNKNOWN_REQUEST with no bytes until a reply has been held (R175). -/
def PortState.readable (q : PortState) : Reply := q.reply.getD (Reply.refusal .unknownRequest)

/-- The first bytes a master clocks out, with 0xFF beyond the check byte (R175). -/
def PortState.clockOut (q : PortState) (count : Nat) : List Byte :=
  q.readable.frame.take count ++ List.replicate (count - q.readable.frame.length) 0xFF

/-- The port sends in a read frame that the master has ended (R175). -/
def State.endRead (s : State) (p : Port) (count : Nat) : State :=
  (s.modPort p (fun q => { q with sent := q.clockOut count })).endFrame p

/-- A frame opens: the port is in a frame state with an empty buffer, and its frame timer runs (R172, R175). -/
def State.openFrame (s : State) (p : Port) (f : FrameState) : State :=
  s.modPort p (fun q => { q with frame := f, buffer := [], timer := some (s.after Config.frameTicks) })

/-- The port sends in a read frame that goes on (R175). -/
def State.holdRead (s : State) (p : Port) (count : Nat) : State :=
  (s.modPort p (fun q => { q with sent := q.clockOut count })).openFrame p .read

/-- READ_FRAME (R175): a port that acknowledges its address sends its held reply from the first byte. -/
def execReadFrame (port : Port) (count : Nat) (ended : Bool) (s : State) : Host.Outcome State Fault Refusal :=
  if s.acknowledges port then done (if ended then s.endRead port count else s.holdRead port count) else done s

/-! ## FRAME_START, DISCARDING_END and the frame timer -/

/-- A start condition with an address in the write direction: a port that acknowledges its own address enters WRITE; a
start for another device ends what the port was doing and leaves it IDLE (R171, R172). -/
def State.startFrame (s : State) (p : Port) (address : Nat) : State :=
  if address = (s.port p).address then if s.acknowledges p then s.openFrame p .write else s else s.endFrame p

/-- FRAME_START (R171, R172). -/
def execFrameStart (port : Port) (address : Nat) (s : State) : Host.Outcome State Fault Refusal :=
  done (s.startFrame port address)

/-- A stop or start condition ends DISCARDING (R172). -/
def State.endDiscarding (s : State) (p : Port) : State :=
  if (s.port p).frame = .discarding then s.modPort p (fun q => { q with frame := .idle }) else s

/-- DISCARDING_END (R172). -/
def execDiscardingEnd (port : Port) (s : State) : Host.Outcome State Fault Refusal := done (s.endDiscarding port)

/-- The frame timer of a port stands at the current tick. -/
def State.frameDue (s : State) (p : Port) : Bool := s.running && s.due (s.port p).timer

/-- The frame timer expires: the frame is abandoned, the port is DISCARDING, and FRAME_TIMEOUT is raised on its own
flags (R172, R175). -/
def State.abandonFrame (s : State) (p : Port) : State :=
  (s.modPort p (fun q => { q with frame := .discarding, buffer := [], timer := none })).raise p .frameTimeout

end Sys2Proof.Machine
end

