-- ==== Sys2Proof/Machine/Ticks.lean ====
section
/-! DEFINITION. Ticks: which timers of the part stand at the current tick, what a tick and a minute boundary do, and the
rule by which an event of a timer is taken (R28, R29, R31, R34; log entries 6 to 9). -/

namespace Sys2Proof.Machine

/-! ## Timers of a portal, a referral and a car at the current tick -/

/-- The leaf debounce of a fitted sensor ends with LEAF at a level (R85). -/
def State.leafDue (s : State) (p : Fin 16) (asserted : Bool) : Bool :=
  s.running && (s.portalRec p).leafSensor && s.due s.portals[p].leafDebounce && s.pins.leaf[p] == asserted

/-- The exit debounce ends with EXIT at a level (R85). -/
def State.exitDue (s : State) (p : Fin 16) (asserted : Bool) : Bool :=
  s.running && s.due s.portals[p].exitDebounce && s.pins.exit[p] == asserted

/-- The exit button is recognized RELEASED (R85). -/
def State.exitReleased (s : State) (p : Fin 16) : State :=
  s.modPortal p (fun q => { q with exit := .released, exitDebounce := none })

/-- The unlock timer expires (R88, R89). -/
def State.unlockDue (s : State) (p : Fin 16) : Bool := s.running && s.due s.portals[p].unlock

/-- The held timer expires (R92). -/
def State.heldDue (s : State) (p : Fin 16) : Bool := s.running && s.due (s.portals[p].held.bind (·.expiry))

/-- The beam has been broken for 12 ticks (R96). -/
def State.interruptionDue (s : State) (p : Fin 16) : Bool := s.running && s.portals[p].beam == .timing s.clock.tick

/-- The beam has been clear for 12 ticks (R96). -/
def State.rearmDue (s : State) (p : Fin 16) : Bool := s.running && s.portals[p].beam == .rearming s.clock.tick

/-- A qualifying interruption is taken (R96, R97). -/
def State.interrupt (s : State) (p : Fin 16) : State := s.modPortal p Portal.interrupted

/-- The beam filter is armed again (R96). -/
def State.rearm (s : State) (p : Fin 16) : State := s.modPortal p (fun q => { q with beam := .armed })

/-- The entry of a ticket is PENDING and its deadline stands at the current tick (R141). -/
def State.deadlineDue (s : State) (ticket : Nat) : Bool :=
  s.running && (s.referral? ticket).any (fun e => e.isPending && e.deadline == s.clock.tick)

/-- The entry of a ticket reaches its deadline (R141). -/
def State.meetDeadline (s : State) (ticket : Nat) : State :=
  match s.referral? ticket with
  | some e => s.reachDeadline e
  | none => s

/-- The session timer of a car expires (R127). -/
def State.sessionDue (s : State) (c : Fin 4) : Bool := s.running && s.due s.cars[c].timer

/-- The fire filter expires with FIRE_IN active in the CLEAR state (R151). -/
def State.onsetDue (s : State) : Bool := s.fireDue && !s.fire.active && s.fireInput

/-- The fire filter expires with FIRE_IN inactive in the ACTIVE state (R153). -/
def State.clearDue (s : State) : Bool := s.fireDue && s.fire.active && !s.fireInput

/-! ## Taking every event whose moment is the current tick -/

/-- Take an event if its moment has come. -/
def settle (due : State → Bool) (act : State → State) (s : State) : State := if due s then act s else s

/-- A portal's pending recomputation (R153). -/
def settleRecompute (s : State) (p : Fin 16) : State := settle (·.recomputeDue p) (·.takeClear p) s

/-- The timers of one portal. -/
def settlePortal (s : State) (p : Fin 16) : State :=
  let s := settle (·.leafDue p true) (·.leafOpened p) s
  let s := settle (·.leafDue p false) (·.leafClosed p) s
  let s := settle (·.exitDue p true) (·.exitPressed p) s
  let s := settle (·.exitDue p false) (·.exitReleased p) s
  let s := settle (·.unlockDue p) (·.expireUnlock p) s
  let s := settle (·.heldDue p) (·.expireHeld p) s
  let s := settle (·.interruptionDue p) (·.interrupt p) s
  settle (·.rearmDue p) (·.rearm p) s

/-- The deadline of one entry. -/
def settleDeadline (s : State) (ticket : Nat) : State := settle (·.deadlineDue ticket) (·.meetDeadline ticket) s

/-- The session timer of one car. -/
def settleSession (s : State) (c : Fin 4) : State := settle (·.sessionDue c) (·.expireSession c) s

/-- The frame timer of one port. -/
def settleFrame (s : State) (p : Port) : State := settle (·.frameDue p) (·.abandonFrame p) s

/-- Every event whose moment is the current tick and that no command has taken is taken before the tick ends, so that no
expiry falls later than its tick (R29). The order is the model's (log entry 7). -/
def State.settleDue (s : State) : State :=
  let s := settle State.onsetDue State.fireStarts s
  let s := settle State.clearDue State.fireEnds s
  let s := allPortals.foldl settleRecompute s
  let s := settle State.tamperDue State.setLatch s
  let s := allPortals.foldl settlePortal s
  let s := (s.referrals.map (·.ticket)).foldl settleDeadline s
  let s := allCars.foldl settleSession s
  settleFrame (settleFrame s .office) .field

/-! ## Ticks and minute boundaries -/

/-- The clock domain has power: main power, or VBAT since the mark was written (R30). -/
def State.clockPowered (s : State) : Bool := s.power.main || s.clock.mark

/-- A minute boundary: the minute advances, and the part, if it runs, takes the new minute: the Roster counts and every
Portal Controller judges its schedule and recomputes its mode (R28, R31, R34, R73, R99; order: log entry 9). -/
def State.takeBoundary (s : State) : State :=
  whenRunning { s with clock := s.clock.nextMinute }
    (fun t => allPortals.foldl State.portalBoundary t.countOutOfWindow)

/-- One step of the clock, with the minute boundary where the second passes 59 (R28). -/
def State.stepClock (s : State) : State :=
  if s.clockPowered then
    let t := { s with clock := s.clock.advance }
    if t.clock.boundaryDue then t.takeBoundary else t
  else s

/-- Pins that no other row gives take new levels (log entry 14); a VBAT that does not hold takes the clock domain's
power with it where main power is absent (R30). -/
def State.setStraps (s : State) (straps : Option Straps) : State :=
  match straps with
  | some x => State.supplyClock { s with pins := { s.pins with straps := x } }
  | none => s

/-- One tick. A tick whose boundary a timed event has gone before (log entry 8) has only its boundary left. -/
def State.tick (s : State) (straps : Option Straps) : State :=
  if s.clock.boundaryDue then (s.setStraps straps).takeBoundary else (s.settleDue.setStraps straps).stepClock

/-- The tick that ends the minute begins, and its boundary is not taken yet (log entry 8). -/
def State.openBoundary (s : State) : State :=
  let t := s.settleDue
  { t with clock := t.clock.advance }

/-- The rule of a timed event: it acts if its moment is the current tick. If the tick to come ends the minute and the
event's moment is that tick, it is taken before the minute boundary, which then waits. At any other time the event has
not come and nothing changes (R29, log entries 6 and 8). -/
def timed (due : State → Bool) (act : State → State) (s : State) : State :=
  if due s then act s
  else if s.clock.endsMinute && due s.openBoundary then act s.openBoundary
  else s

/-- TICK (R28). -/
def execTick (straps : Option Straps) (s : State) : Host.Outcome State Fault Refusal := done (s.tick straps)

/-- The minute boundary that has come, or that the tick to come brings (R34, log entry 8). -/
def State.boundary (s : State) : State :=
  if s.clock.boundaryDue || s.clock.endsMinute then s.tick none else s

/-- MINUTE_BOUNDARY (R28, R34). -/
def execMinuteBoundary (s : State) : Host.Outcome State Fault Refusal := done s.boundary

end Sys2Proof.Machine
end

