-- ==== Sys2Proof/Machine/Events.lean ====
section
/-! DEFINITION. Events: the meaning of every command that is no request and no frame: power and reset, the Store's own
events, the lines of the building, and the expiries of the part's timers. -/

namespace Sys2Proof.Machine

/-! ## Power, reset and the Store -/

/-- POWER_ON (R26, R30). -/
def execPowerOn (s : State) : Host.Outcome State Fault Refusal := done s.powerOn

/-- MAIN_POWER_LOSS (R26, R30). -/
def execMainPowerLoss (s : State) : Host.Outcome State Fault Refusal := done s.losePower

/-- VBAT_LOSS (R30). -/
def execVbatLoss (s : State) : Host.Outcome State Fault Refusal := done s.loseVbat

/-- RESET_ASSERT (R26). -/
def execResetAssert (s : State) : Host.Outcome State Fault Refusal := done s.assertReset

/-- RESET_NEGATE (R26). -/
def execResetNegate (s : State) : Host.Outcome State Fault Refusal := done s.negateReset

/-- RESTORE_COMPLETE (R27). -/
def execRestoreComplete (s : State) : Host.Outcome State Fault Refusal := done s.completeRestore

/-- SLOT_VERIFIED (R11, R24). -/
def execSlotVerified (agrees : Bool) (s : State) : Host.Outcome State Fault Refusal :=
  done (whenRunning s (·.slotVerified agrees))

/-- BUDGET_WRITE_BACK (R23). -/
def execBudgetWriteBack (s : State) : Host.Outcome State Fault Refusal := done (whenRunning s State.writeBack)

/-! ## LEAF and EXIT (R85) -/

/-- LEAF of a portal takes a level. -/
def State.leafIn (s : State) (p : Fin 16) (asserted : Bool) : State :=
  if s.pins.leaf[p] = asserted then s
  else
    whenRunning { s with pins := { s.pins with leaf := s.pins.leaf.set p asserted } } (·.debounceLeaf p asserted)

/-- LEAF_LINE_CHANGE (R85). -/
def execLeafLineChange (portal : Fin 16) (asserted : Bool) (s : State) : Host.Outcome State Fault Refusal :=
  done (s.leafIn portal asserted)

/-- LEAF_OPEN_RECOGNIZED (R90, R95). -/
def execLeafOpenRecognized (portal : Fin 16) (s : State) : Host.Outcome State Fault Refusal :=
  done (timed (·.leafDue portal true) (·.leafOpened portal) s)

/-- LEAF_CLOSED_RECOGNIZED (R93, R94). -/
def execLeafClosedRecognized (portal : Fin 16) (s : State) : Host.Outcome State Fault Refusal :=
  done (timed (·.leafDue portal false) (·.leafClosed portal) s)

/-- EXIT of a portal takes a level. -/
def State.exitIn (s : State) (p : Fin 16) (asserted : Bool) : State :=
  if s.pins.exit[p] = asserted then s
  else
    whenRunning { s with pins := { s.pins with exit := s.pins.exit.set p asserted } } (·.debounceExit p asserted)

/-- EXIT_LINE_CHANGE (R85). -/
def execExitLineChange (portal : Fin 16) (asserted : Bool) (s : State) : Host.Outcome State Fault Refusal :=
  done (s.exitIn portal asserted)

/-- EXIT_PRESS (R98, R115). -/
def execExitPress (portal : Fin 16) (s : State) : Host.Outcome State Fault Refusal :=
  done (timed (·.exitDue portal true) (·.exitPressed portal) s)

/-- EXIT_RELEASE_RECOGNIZED (R85). -/
def execExitReleaseRecognized (portal : Fin 16) (s : State) : Host.Outcome State Fault Refusal :=
  done (timed (·.exitDue portal false) (·.exitReleased portal) s)

/-! ## The timers of a portal -/

/-- UNLOCK_EXPIRY (R88, R89). -/
def execUnlockExpiry (portal : Fin 16) (s : State) : Host.Outcome State Fault Refusal :=
  done (timed (·.unlockDue portal) (·.expireUnlock portal) s)

/-- HELD_TIMER_EXPIRY (R92). -/
def execHeldTimerExpiry (portal : Fin 16) (s : State) : Host.Outcome State Fault Refusal :=
  done (timed (·.heldDue portal) (·.expireHeld portal) s)

/-! ## BEAM (R96, R97) -/

/-- BEAM of a portal takes a level, and the filter moves with it where it runs. -/
def State.beamIn (s : State) (p : Fin 16) (broken : Bool) (f : Portal → Portal) : State :=
  if s.pins.beam[p] = broken then s
  else whenRunning { s with pins := { s.pins with beam := s.pins.beam.set p broken } } (·.modPortal p f)

/-- The beam breaks. -/
def State.beamBroken (s : State) (p : Fin 16) : State :=
  s.beamIn p true (fun q => { q with beam := q.beam.broken (s.after Config.beamTicks) })

/-- BEAM_BREAK (R96). -/
def execBeamBreak (portal : Fin 16) (s : State) : Host.Outcome State Fault Refusal := done (s.beamBroken portal)

/-- The beam clears. -/
def State.beamCleared (s : State) (p : Fin 16) : State :=
  s.beamIn p false (fun q => { q with beam := q.beam.cleared (s.after Config.beamTicks) })

/-- BEAM_CLEAR (R96). -/
def execBeamClear (portal : Fin 16) (s : State) : Host.Outcome State Fault Refusal := done (s.beamCleared portal)

/-- QUALIFYING_INTERRUPTION (R96, R97). -/
def execQualifyingInterruption (portal : Fin 16) (s : State) : Host.Outcome State Fault Refusal :=
  done (timed (·.interruptionDue portal) (·.interrupt portal) s)

/-- BEAM_REARM_EXPIRY (R96). -/
def execBeamRearmExpiry (portal : Fin 16) (s : State) : Host.Outcome State Fault Refusal :=
  done (timed (·.rearmDue portal) (·.rearm portal) s)

/-! ## Referrals, cars and frames -/

/-- REFERRAL_DEADLINE (R141). -/
def execReferralDeadline (ticket : Nat) (s : State) : Host.Outcome State Fault Refusal :=
  done (timed (·.deadlineDue ticket) (·.meetDeadline ticket) s)

/-- SESSION_TIMER_EXPIRY (R127). -/
def execSessionTimerExpiry (car : Fin 4) (s : State) : Host.Outcome State Fault Refusal :=
  done (timed (·.sessionDue car) (·.expireSession car) s)

/-- FRAME_TIMEOUT (R172, R175). -/
def execFrameTimeout (port : Port) (s : State) : Host.Outcome State Fault Refusal :=
  done (timed (·.frameDue port) (·.abandonFrame port) s)

/-! ## Fire and tamper -/

/-- FIRE_IN_CHANGE (R150). -/
def execFireInChange (high : Bool) (s : State) : Host.Outcome State Fault Refusal := done (s.fireIn high)

/-- FIRE_ONSET (R151, R154). -/
def execFireOnset (s : State) : Host.Outcome State Fault Refusal := done (timed State.onsetDue State.fireStarts s)

/-- FIRE_CLEAR (R153, R154). -/
def execFireClear (s : State) : Host.Outcome State Fault Refusal := done (timed State.clearDue State.fireEnds s)

/-- FIRE_CLEAR_RECOMPUTATION (R153). -/
def execFireClearRecomputation (portal : Fin 16) (s : State) : Host.Outcome State Fault Refusal :=
  done (timed (·.recomputeDue portal) (·.takeClear portal) s)

/-- TAMPER_LINE_CHANGE (R155). -/
def execTamperLineChange (asserted : Bool) (s : State) : Host.Outcome State Fault Refusal := done (s.tamperIn asserted)

/-- TAMPER_LATCH_SET (R155). -/
def execTamperLatchSet (s : State) : Host.Outcome State Fault Refusal := done (timed State.tamperDue State.setLatch s)

end Sys2Proof.Machine
end

