-- ==== Sys2Proof/Machine/Dispatch.lean ====
section
/-! DEFINITION. Dispatch: which meaning each command has. -/

namespace Sys2Proof.Machine

def exec (i : Instr) (s : State) : Host.Outcome State Fault Refusal :=
  match i with
  | .powerOn => Sys2Proof.Machine.execPowerOn s
  | .mainPowerLoss => Sys2Proof.Machine.execMainPowerLoss s
  | .vbatLoss => Sys2Proof.Machine.execVbatLoss s
  | .resetAssert => Sys2Proof.Machine.execResetAssert s
  | .resetNegate => Sys2Proof.Machine.execResetNegate s
  | .restoreComplete => Sys2Proof.Machine.execRestoreComplete s
  | .minuteBoundary => Sys2Proof.Machine.execMinuteBoundary s
  | .present reader id => Sys2Proof.Machine.execPresent reader id s
  | .withdraw ticket => Sys2Proof.Machine.execWithdraw ticket s
  | .takeOutcome ticket => Sys2Proof.Machine.execTakeOutcome ticket s
  | .carArrival car landing => Sys2Proof.Machine.execCarArrival car landing s
  | .putUnit unit zone state => Sys2Proof.Machine.execPutUnit unit zone state s
  | .putTenancy tenancy state profile units => Sys2Proof.Machine.execPutTenancy tenancy state profile units s
  | .dropTenancy tenancy => Sys2Proof.Machine.execDropTenancy tenancy s
  | .putCredential o => Sys2Proof.Machine.execPutCredential o s
  | .dropCredential id => Sys2Proof.Machine.execDropCredential id s
  | .putProfile profile windows common grace => Sys2Proof.Machine.execPutProfile profile windows common grace s
  | .putHolidays days => Sys2Proof.Machine.execPutHolidays days s
  | .putPortal portal o => Sys2Proof.Machine.execPutPortal portal o s
  | .putCar car o => Sys2Proof.Machine.execPutCar car o s
  | .putSite limit => Sys2Proof.Machine.execPutSite limit s
  | .slotVerified agrees => Sys2Proof.Machine.execSlotVerified agrees s
  | .budgetWriteBack => Sys2Proof.Machine.execBudgetWriteBack s
  | .setClock day minute second => Sys2Proof.Machine.execSetClock day minute second s
  | .holdMode portal mode => Sys2Proof.Machine.execHoldMode portal mode s
  | .releaseHold portal => Sys2Proof.Machine.execReleaseHold portal s
  | .answerReferral ticket id verdict => Sys2Proof.Machine.execAnswerReferral ticket id verdict s
  | .listReferrals => Sys2Proof.Machine.execListReferrals s
  | .takeJournal n => Sys2Proof.Machine.execTakeJournal n s
  | .readRoster start => Sys2Proof.Machine.execReadRoster start s
  | .dropRosterEntry id => Sys2Proof.Machine.execDropRosterEntry id s
  | .clearRoster => Sys2Proof.Machine.execClearRoster s
  | .readRecord port kind key => Sys2Proof.Machine.execReadRecord port kind key s
  | .readPortal port portal => Sys2Proof.Machine.execReadPortal port portal s
  | .readCar port car => Sys2Proof.Machine.execReadCar port car s
  | .readStatus port => Sys2Proof.Machine.execReadStatus port s
  | .readEvents port => Sys2Proof.Machine.execReadEvents port s
  | .clearEvents port flags => Sys2Proof.Machine.execClearEvents port flags s
  | .setEventMask port mask => Sys2Proof.Machine.execSetEventMask port mask s
  | .writeFrame port bytes => Sys2Proof.Machine.execWriteFrame port bytes s
  | .readFrame port count ended => Sys2Proof.Machine.execReadFrame port count ended s
  | .frameTimeout port => Sys2Proof.Machine.execFrameTimeout port s
  | .leafLineChange portal asserted => Sys2Proof.Machine.execLeafLineChange portal asserted s
  | .leafOpenRecognized portal => Sys2Proof.Machine.execLeafOpenRecognized portal s
  | .leafClosedRecognized portal => Sys2Proof.Machine.execLeafClosedRecognized portal s
  | .exitLineChange portal asserted => Sys2Proof.Machine.execExitLineChange portal asserted s
  | .exitPress portal => Sys2Proof.Machine.execExitPress portal s
  | .exitReleaseRecognized portal => Sys2Proof.Machine.execExitReleaseRecognized portal s
  | .unlockExpiry portal => Sys2Proof.Machine.execUnlockExpiry portal s
  | .heldTimerExpiry portal => Sys2Proof.Machine.execHeldTimerExpiry portal s
  | .beamBreak portal => Sys2Proof.Machine.execBeamBreak portal s
  | .beamClear portal => Sys2Proof.Machine.execBeamClear portal s
  | .qualifyingInterruption portal => Sys2Proof.Machine.execQualifyingInterruption portal s
  | .beamRearmExpiry portal => Sys2Proof.Machine.execBeamRearmExpiry portal s
  | .referralDeadline ticket => Sys2Proof.Machine.execReferralDeadline ticket s
  | .sessionTimerExpiry car => Sys2Proof.Machine.execSessionTimerExpiry car s
  | .fireInChange high => Sys2Proof.Machine.execFireInChange high s
  | .fireOnset => Sys2Proof.Machine.execFireOnset s
  | .fireClear => Sys2Proof.Machine.execFireClear s
  | .fireClearRecomputation portal => Sys2Proof.Machine.execFireClearRecomputation portal s
  | .tamperLineChange asserted => Sys2Proof.Machine.execTamperLineChange asserted s
  | .tamperLatchSet => Sys2Proof.Machine.execTamperLatchSet s
  | .tick straps => Sys2Proof.Machine.execTick straps s
  | .frameStart port address => Sys2Proof.Machine.execFrameStart port address s
  | .discardingEnd port => Sys2Proof.Machine.execDiscardingEnd port s

end Sys2Proof.Machine
end

