-- ==== Sys2Proof/WellFormed.lean ====
section
/-! DEFINITION. WellFormed: an operand of a request fits the bytes in which it travels, a list's operands fit one frame,
and the address of a start condition has 7 bits (R171, R173, R176, R177). An operand that fits its bytes and lies
outside its range is well formed: its owner refuses it (R173). Every other command is well formed as it stands. -/

namespace Sys2Proof

/-- A number fits in so many bytes. -/
def fits (bytes n : Nat) : Bool := decide (n < 256 ^ bytes)

/-- An optional number is absent, or fits in so many bytes. -/
def optFits (bytes : Nat) (x : Option Nat) : Bool := x.all (fits bytes)

/-- The operands of PUT_CREDENTIAL fit: its presence operand has three bits above the five it names (R176). -/
def CredentialOperands.wf (o : CredentialOperands) : Bool :=
  fits 4 o.id && fits 1 o.kind && fits 1 o.status && optFits 2 o.tenancy && optFits 2 o.expiry && optFits 1 o.budget
    && optFits 1 o.staffProfile && decide (o.reserved < 8)

/-- The fields of PUT_PORTAL fit one byte each (R176). -/
def PortalOperands.wf (o : PortalOperands) : Bool :=
  [o.enabled, o.outer, o.inner, o.baseMode, o.freeProfile, o.unlockCount, o.unlockBase, o.heldLimit, o.passback,
    o.leafSensor, o.beam, o.exitButton, o.egress, o.polarity, o.group, o.fallback, o.timeout].all (fits 1)

/-- The fields of PUT_CAR fit one byte each, and its 8 operands with its zones fit one frame (R173, R176). -/
def CarOperands.wf (o : CarOperands) : Bool :=
  [o.enabled, o.landings, o.home, o.mode, o.passback, o.window].all (fits 1) && o.zones.all (fits 1)
    && decide (8 + o.zones.length ≤ 60)

/-- A window of PUT_PROFILE fits (R176). -/
def WindowOperand.wf (w : WindowOperand) : Bool := fits 2 w.openMinute && fits 2 w.closeMinute

/-- Bytes of the key that READ_RECORD carries for a kind code; a code that names no kind carries none here (R176). -/
def recordKeyBytes : Nat → Nat
  | 0 | 1 | 3 => 2
  | 2 => 4
  | 4 | 6 | 7 => 1
  | _ => 0

/-- A command is well formed. -/
def Instr.wf : Instr → Bool
  | .present reader id => fits 1 reader && fits 4 id
  | .withdraw ticket => fits 1 ticket
  | .takeOutcome ticket => fits 1 ticket
  | .carArrival car landing => fits 1 car && fits 1 landing
  | .putUnit unit zone state => fits 2 unit && fits 1 zone && fits 1 state
  | .putTenancy tenancy state profile units =>
    fits 2 tenancy && fits 1 state && fits 1 profile && units.all (fits 2) && decide (5 + 2 * units.length ≤ 60)
  | .dropTenancy tenancy => fits 2 tenancy
  | .putCredential o => o.wf
  | .dropCredential id => fits 4 id
  | .putProfile profile windows _ grace =>
    fits 1 profile && windows.all WindowOperand.wf && fits 1 grace && decide (5 + 5 * windows.length ≤ 60)
  | .putHolidays days => days.all (fits 2) && decide (1 + 2 * days.length ≤ 60)
  | .putPortal portal o => fits 1 portal && o.wf
  | .putCar car o => fits 1 car && o.wf
  | .putSite limit => fits 2 limit
  | .setClock day minute second => fits 2 day && fits 2 minute && fits 1 second
  | .holdMode portal mode => fits 1 portal && fits 1 mode
  | .releaseHold portal => fits 1 portal
  | .answerReferral ticket id verdict => fits 1 ticket && fits 4 id && fits 1 verdict
  | .takeJournal n => fits 1 n
  | .readRoster start => fits 1 start
  | .dropRosterEntry id => fits 4 id
  | .readRecord _ kind key => fits 1 kind && fits (recordKeyBytes kind) key
  | .readPortal _ portal => fits 1 portal
  | .readCar _ car => fits 1 car
  | .frameStart _ address => decide (address < 128)
  | .listReferrals | .clearRoster | .readStatus _ | .readEvents _ | .clearEvents _ _ | .setEventMask _ _
  | .powerOn | .mainPowerLoss | .vbatLoss | .resetAssert | .resetNegate | .restoreComplete | .minuteBoundary
  | .slotVerified _ | .budgetWriteBack | .writeFrame _ _ | .readFrame _ _ _ | .frameTimeout _ | .leafLineChange _ _
  | .leafOpenRecognized _ | .leafClosedRecognized _ | .exitLineChange _ _ | .exitPress _ | .exitReleaseRecognized _
  | .unlockExpiry _ | .heldTimerExpiry _ | .beamBreak _ | .beamClear _ | .qualifyingInterruption _
  | .beamRearmExpiry _ | .referralDeadline _ | .sessionTimerExpiry _ | .fireInChange _ | .fireOnset | .fireClear
  | .fireClearRecomputation _ | .tamperLineChange _ | .tamperLatchSet | .tick _ | .discardingEnd _ => true

end Sys2Proof
end

