-- ==== Sys2Proof/Safety.lean ====
section
/-! DEFINITION. Safety: the laws of the part that claims speak of, and the states that statements name. -/

namespace Sys2Proof.Machine

/-! ## Laws that every step keeps -/

/-- The output pins are those that the state asks for: strikes by leaf state and polarity (R84), own drives by counting
members (R111), ALARM (R157) and the attention lines (R167). -/
def OutputsFollow (s : State) : Prop := s.outs = s.outputs

/-- The journal holds at most 512 records (R159). -/
def JournalBounded (s : State) : Prop := s.journal.length ≤ 512

/-- No portal that is SECURE or FREE keeps anything of a cycle: its counts are 0, its tailgate check is off, its list is
empty and its unlock and held timers are stopped (R83, R87, R92). -/
def CyclesClosed (s : State) : Prop :=
  ∀ p : Fin 16, (s.portals[p].leaf = .secure ∨ s.portals[p].leaf = .free) →
    s.portals[p].grants = 0 ∧ s.portals[p].passages = 0 ∧ s.portals[p].tailgate = false ∧ s.portals[p].moves = []
      ∧ s.portals[p].unlock = none ∧ s.portals[p].held = none

/-- A part without power or under reset is RESTORING (R2, R26). -/
def StoppedRestores (s : State) : Prop := s.sampling = false → s.store.phase = .restoring

/-- While the part runs, a portal's leaf state is FREE exactly while its effective mode is FREE, and every egress-flagged
portal is FREE while the fire state is ACTIVE (R101, R102, R151). -/
def EgressFree (s : State) : Prop :=
  StoppedRestores s ∧
    (s.running = true → ∀ p : Fin 16,
      (s.portals[p].leaf = .free ↔ s.portals[p].mode = .free)
        ∧ (s.egressUnderFire p = true → s.portals[p].mode = .free))

/-- A car's session is OPEN, and its timer runs, exactly while its list holds a passenger (R121). -/
def SessionsAgree (s : State) : Prop :=
  ∀ c : Fin 4, (s.cars[c].session = .opened ↔ s.cars[c].passengers ≠ [])
    ∧ (s.cars[c].timer.isSome = true ↔ s.cars[c].passengers ≠ [])

/-- The referral queue holds at most 8 entries with distinct tickets from 1 to 255, and the ticket counter lies in the
same range (R135, R136). -/
def QueueLaw (s : State) : Prop :=
  s.referrals.length ≤ 8 ∧ (s.referrals.map (·.ticket)).Nodup
    ∧ (∀ e ∈ s.referrals, 1 ≤ e.ticket ∧ e.ticket ≤ 255) ∧ 1 ≤ s.ticketCounter ∧ s.ticketCounter ≤ 255

/-- The slots' tables keep their canonical form. -/
def Slots.wf (t : Slots) : Bool :=
  t.units.wf && t.tenancies.wf && t.credentials.wf && t.profiles.wf && t.portals.wf && t.cars.wf

/-- The mirror's tables keep their canonical form: no number stands twice, and numbers ascend (R5). -/
def Mirror.wf (m : Mirror) : Bool := m.units.wf && m.tenancies.wf && m.credentials.wf && m.profiles.wf

/-- Every table of the Store keeps its canonical form (R5, log entry 29). -/
def TablesRise (s : State) : Prop :=
  s.store.slots.wf = true ∧ s.store.mirror.wf = true ∧ s.store.duplicates.wf = true

/-- Each port's flags and mask hold only flags of that port (R165, R167). -/
def FlagsOfPorts (s : State) : Prop :=
  ∀ p : Port, flagsAllowed p (s.port p).flags = true ∧ flagsAllowed p (s.port p).mask = true

/-- No credential has two roster entries (R65). -/
def RosterDistinct (s : State) : Prop := (s.roster.map (·.id)).Nodup

/-- A part that is RESTORING holds nothing of its volatile state: an empty mirror, no programming, no marks, no noted
duplicates, an empty roster, queue and journal, the ticket counter at 1, stopped portals and cars, a clear latch with its
filter idle, and ports with no frame, no held reply, no flags and an empty mask (R2, R26, R82, R109, R134, R149, R155,
R164, R170, R178). The fire state and its filter work in restore too (R150, R154). -/
def RestoringHoldsNothing (s : State) : Prop :=
  s.store.phase = .restoring →
    s.store.mirror = Mirror.empty ∧ s.store.job = none ∧ s.store.waiting = none ∧ s.store.marks = []
      ∧ s.store.duplicates = ⟨[]⟩
      ∧ s.roster = [] ∧ s.portals = Vector.replicate 16 Portal.stopped ∧ s.cars = Vector.replicate 4 Car.stopped
      ∧ s.referrals = [] ∧ s.ticketCounter = 1 ∧ s.journal = [] ∧ s.fire.latch = false ∧ s.fire.tamperFilter = none
      ∧ s.office = PortState.stopped s.office.address ∧ s.field = PortState.stopped s.field.address

/-! ## States that statements name -/

/-- Everything the part keeps in volatile state is gone, and the part is RESTORING (R26, R82, R109, R134, R149, R164,
R170, R178); the fire filter, which restore starts again, is not judged here. -/
def VolatileLost (t : State) : Prop :=
  t.store.phase = .restoring ∧ t.store.mirror = Mirror.empty ∧ t.store.job = none ∧ t.store.waiting = none
    ∧ t.store.marks = [] ∧ t.store.duplicates = ⟨[]⟩ ∧ t.roster = [] ∧ t.portals = Vector.replicate 16 Portal.stopped
    ∧ t.cars = Vector.replicate 4 Car.stopped ∧ t.referrals = [] ∧ t.ticketCounter = 1 ∧ t.journal = []
    ∧ t.fire.active = false ∧ t.fire.latch = false ∧ t.fire.tamperFilter = none
    ∧ t.office = PortState.stopped t.office.address ∧ t.field = PortState.stopped t.field.address
    ∧ t.outs = Outputs.stopped

/-- A port after a request that has been answered: its frame has ended and it holds the reply (R173, R174). -/
def PortState.answered (q : PortState) (r : Reply) : PortState :=
  { q with frame := .idle, buffer := [], timer := none, reply := some r }

/-- The Office Port refuses a request with a result code, and nothing else changes (R10, R177). -/
def OfficeRefuses (s : State) (c : Instr) (r : ResultCode) : Prop :=
  exec c s = .next (State.drive { s with office := s.office.answered ⟨r, []⟩ })

/-- A port refuses a write frame with a result code, and nothing else changes (R173). -/
def FrameRefused (s : State) (p : Port) (bytes : List Byte) (r : ResultCode) : Prop :=
  exec (.writeFrame p bytes) s = .next (s.modPort p (fun q => q.answered ⟨r, []⟩)).drive

/-- The bytes that the fields named by PUT_CREDENTIAL's presence operand take: tenancy 2, expiry day 2, budget 1, staff
profile 1, staff zone set 2 (R176). -/
def credentialFieldLength (presence : Byte) : Nat :=
  2 * (presence.getLsbD 0).toNat + 2 * (presence.getLsbD 1).toNat + (presence.getLsbD 2).toNat
    + (presence.getLsbD 3).toNat + 2 * (presence.getLsbD 4).toNat

/-- The records with which the closing leaf ends the cycle of an OPEN, HELD or FORCED portal `q`: HELD_CLEARED with the
whole seconds of a HELD one, TAILGATE with the excess where a beam is fitted and the cycle is judged, FORCED_CLEARED with
the passages of a FORCED one (R93, R94). -/
def State.closingRecords (s : State) (p : Fin 16) (q : Portal) (beam : Bool) : List Record :=
  let seconds := match q.held with | some h => min ((s.clock.tick - h.start) / 100) 65535 | none => 0
  let tailgate : List Record :=
    if beam = true ∧ q.tailgate = true ∧ q.grants < q.passages then
      [{ s.blankRecord .tailgate with subject := some p.val, count := some (q.passages - q.grants) }]
    else []
  match q.leaf with
  | .opened => tailgate
  | .held => { s.blankRecord .heldCleared with subject := some p.val, count := some seconds } :: tailgate
  | .forced => [{ s.blankRecord .forcedCleared with subject := some p.val, count := some q.passages }]
  | .secure | .released | .free => []

/-- The part after the Store has taken a put or drop while it was READY: it is PROGRAMMING these slots, and the Office
Port is busy (R10, R174). -/
def State.programming (s : State) (writes : List SlotWrite) : State :=
  State.drive
    { s with
      store :=
        { s.store with
          phase := .programming
          job := some { task := .request, writes := writes, verified := 0, retry := false } }
      office := { s.office with frame := .idle, buffer := [], timer := none, busy := true } }

/-- The level at which a strike secures its portal (R84). -/
def secureLevel (r : PortalRec) : StrikeLevel :=
  match r.polarity with
  | .releaseHigh => .low
  | .releaseLow => .high

/-- The level at which a strike releases its portal (R84). -/
def releaseLevel (r : PortalRec) : StrikeLevel :=
  match r.polarity with
  | .releaseHigh => .high
  | .releaseLow => .low

end Sys2Proof.Machine
end

