-- ==== Sys2Proof/Certificates/Slice0/Obligations.lean ====
section
/-! DEFINITION. Obligations: the statements for the provers. A statement about the effect of a command ends in a next
state of `exec` for every state that meets its hypotheses; an equation that writes the next state as a record update
gives its frame too. -/

open Sys2Proof Sys2Proof.Machine

/-! ## The queue and the outcomes -/

/-- A step takes the command at the front of the queue; an empty queue idles (log entry 5). -/
def Obligations.StepRunsFront : Prop :=
  (∀ (c : Instr) (rest : List Instr) (s : State), s.pending = c :: rest → step s = exec c { s with pending := rest })
    ∧ ∀ s : State, s.pending = [] → step s = .next s

/-- No command faults or is refused: every one answers a next state, and none touches the queue. (no fault and no
refusal: the manual gives every command an effect or none, log entry 12) -/
def Obligations.EveryCommandAnswersNext : Prop :=
  ∀ (c : Instr) (s : State), ∃ t, exec c s = .next t ∧ t.pending = s.pending

/-! ## Laws that every step keeps -/

/-- R84, R111, R157 and R167: the output pins follow the state. -/
def Obligations.OutputsKept : Prop :=
  ∀ s t : State, OutputsFollow s → step s = .next t → OutputsFollow t

/-- R135, R136, R159, R165, R167: at most 512 journal records, at most 8 referral entries with distinct tickets from 1
to 255, and each port's flags and mask within the flags of that port. -/
def Obligations.LogsKept : Prop :=
  ∀ s t : State, step s = .next t →
    (JournalBounded s → JournalBounded t) ∧ (QueueLaw s → QueueLaw t) ∧ (FlagsOfPorts s → FlagsOfPorts t)

/-- R83, R121: a SECURE or FREE portal keeps nothing of a cycle, and a car's session is OPEN and timed exactly while a
passenger rides. -/
def Obligations.CyclesKept : Prop :=
  ∀ s t : State, step s = .next t →
    (CyclesClosed s → CyclesClosed t) ∧ (SessionsAgree s → SessionsAgree t)

/-- R101, R102, R151: FREE leaf states and FREE modes go together, and fire frees every egress portal. -/
def Obligations.EgressKept : Prop :=
  ∀ s t : State, EgressFree s → step s = .next t → EgressFree t

/-- R5, R65: the Store's tables ascend, with no number twice (log entry 29), and no credential gains a second roster
entry. -/
def Obligations.TablesKept : Prop :=
  ∀ s t : State, step s = .next t →
    (TablesRise s → TablesRise t) ∧ (RosterDistinct s → RosterDistinct t)

/-- R2, R26, R82, R109, R134, R149, R155, R164, R170, R178: a part that is RESTORING, whatever commands arrive, holds an
empty mirror, no programming and no marks, no noted duplicates, an empty roster, an empty referral queue with its ticket
counter at 1, an empty journal, portals and cars as the reset condition has them, a clear tamper latch with its filter
idle, and ports with no frame, no held reply, no flags and an empty mask. -/
def Obligations.RestoringKept : Prop :=
  ∀ s t : State, RestoringHoldsNothing s → step s = .next t → RestoringHoldsNothing t

/-- The reset state meets every law that steps keep. (the reset state is the model's: log entries 3 and 4) -/
def Obligations.ResetMeetsLaws : Prop :=
  OutputsFollow State.reset ∧ JournalBounded State.reset ∧ CyclesClosed State.reset ∧ EgressFree State.reset
    ∧ SessionsAgree State.reset ∧ QueueLaw State.reset ∧ TablesRise State.reset ∧ FlagsOfPorts State.reset
    ∧ RosterDistinct State.reset ∧ RestoringHoldsNothing State.reset

/-- R151: after any step of a running part, every egress-flagged portal's strike stands at release level while the
fire state is ACTIVE. -/
def Obligations.FireReleasesEgressStrikes : Prop :=
  ∀ s t : State, OutputsFollow s → EgressFree s → step s = .next t → t.running = true → t.fire.active = true →
    ∀ p : Fin 16, (t.portalRec p).egress = true → t.outs.strike[p] = releaseLevel (t.portalRec p)

/-- R157: ALARM is asserted exactly while the part runs and the latch is set or a portal is FORCED or HELD, after
every command. It begins negated at a restore completion that finds the latch clear (RestoringKept: it always does),
it is negated by every way of stopping the part, the fire state alone does not assert it, and clearing flags that
leaves the latch as it is leaves ALARM as the states ask. -/
def Obligations.AlarmFollowsStates : Prop :=
  (∀ (c : Instr) (s t : State), exec c s = .next t →
      (t.outs.alarm = true ↔
        t.running = true
          ∧ (t.fire.latch = true ∨ ∃ p : Fin 16, t.portals[p].leaf = .forced ∨ t.portals[p].leaf = .held)))
    ∧ (∀ s t : State, s.sampling = true → s.store.phase = .restoring → s.fire.latch = false →
        exec .restoreComplete s = .next t → t.outs.alarm = false)
    ∧ (∀ s t : State, exec .resetAssert s = .next t → t.power.resetAsserted = true ∧ t.outs.alarm = false)
    ∧ (∀ s t : State, s.store.phase = .restoring → (∃ c : Instr, c ≠ .restoreComplete ∧ exec c s = .next t) →
        t.outs.alarm = false)
    ∧ ∀ (p : Port) (flags : Set16) (s t : State), exec (.clearEvents p flags) s = .next t →
        t.fire.latch = s.fire.latch → t.outs.alarm = s.outputs.alarm

/-- R84: after every command, each strike of a running part stands at release level exactly when its leaf state is
RELEASED or FREE and at secure level otherwise, by the polarity that the mirror then holds; until restore completes
every strike is undriven. -/
def Obligations.StrikesFollowLeaves : Prop :=
  ∀ (c : Instr) (s t : State), exec c s = .next t →
    (t.running = true → ∀ p : Fin 16,
      t.outs.strike[p] =
        (if t.portals[p].leaf = .released ∨ t.portals[p].leaf = .free then releaseLevel (t.portalRec p)
         else secureLevel (t.portalRec p)))
    ∧ (t.running = false → ∀ p : Fin 16, t.outs.strike[p] = .undriven)
    ∧ ∀ r : PortalRec,
        (r.polarity = .releaseHigh → releaseLevel r = .high ∧ secureLevel r = .low)
          ∧ (r.polarity = .releaseLow → releaseLevel r = .low ∧ secureLevel r = .high)

/-- R110 to R113, R118: after every command, a line of a running part is pulled exactly while a member of its group
counts: a member that is not SECURE and is not an egress portal under fire. A line reads low exactly while a member
counts or another device pulls it. A release at a member is judged busy under condition 1 exactly while another member
counts, under condition 2 exactly while no member counts and the line reads low, and not busy in every other case: while
no other member counts and either the member itself counts or the line reads high. A portal of no group is never judged
busy, and an egress portal under fire never is. -/
def Obligations.DrivesFollowMembers : Prop :=
  (∀ (c : Instr) (s t : State) (g : Fin 4), exec c s = .next t →
    (t.outs.pulling[g] = true ↔
      t.running = true ∧ ∃ p : Fin 16, (t.portalRec p).group = some g ∧ t.portals[p].leaf ≠ .secure
        ∧ ¬(t.fire.active = true ∧ (t.portalRec p).egress = true)))
    ∧ ∀ (s : State) (p : Fin 16),
        ((s.portalRec p).group = none → s.busyFor p = none)
        ∧ (s.fire.active = true → (s.portalRec p).egress = true → s.busyFor p = none)
        ∧ ∀ (g : Fin 4) (counting : Fin 16 → Prop),
            (∀ q : Fin 16, counting q ↔
              (s.portalRec q).group = some g ∧ s.portals[q].leaf ≠ .secure
                ∧ ¬(s.fire.active = true ∧ (s.portalRec q).egress = true)) →
            (s.lineHigh g = false ↔ (∃ q : Fin 16, counting q) ∨ s.pins.straps.ilOther[g] = true)
            ∧ ((s.portalRec p).group = some g → ¬(s.fire.active = true ∧ (s.portalRec p).egress = true) →
                (s.busyFor p = some 1 ↔ ∃ q : Fin 16, q ≠ p ∧ counting q)
                ∧ (s.busyFor p = some 2 ↔ (∀ q : Fin 16, ¬counting q) ∧ s.lineHigh g = false)
                ∧ (s.busyFor p = none ↔
                    (∀ q : Fin 16, q ≠ p → ¬counting q) ∧ (counting p ∨ s.lineHigh g = true)))

/-! ## The journal -/

/-- R159, R161 to R163: one append, and TAKE_JOURNAL. A list below 512 grows at its end, and JOURNAL_HALF is raised on
reaching 256. A full list loses its oldest record, its next record takes the gap mark, and JOURNAL_GAP is raised.
Nothing else changes. TAKE_JOURNAL removes the n oldest records and nothing else, and its reply counts them and those
left; an n outside 1 to 8 is refused. -/
def Obligations.JournalRing : Prop :=
  (∀ (s : State) (r : Record),
     (s.journal.length < 512 → s.journal.length + 1 ≠ 256 → s.append r = { s with journal := s.journal ++ [r] })
     ∧ (s.journal.length + 1 = 256 →
         s.append r =
           { s with
             journal := s.journal ++ [r]
             office := { s.office with flags := s.office.flags ||| 0x0002 } })
     ∧ (∀ (x y : Record) (rest : List Record), s.journal = x :: y :: rest → 512 ≤ s.journal.length →
         s.append r =
           { s with
             journal := { y with gap := true } :: rest ++ [r]
             office := { s.office with flags := s.office.flags ||| 0x0004 } }))
    ∧ (∀ (s : State) (n : Nat), s.acknowledges .office = true → 1 ≤ n → n ≤ 8 →
     exec (.takeJournal n) s =
       .next (State.drive
         { s with
           journal := s.journal.drop n
           office := s.office.answered
             ⟨.ok, byte1 (min n s.journal.length) ++ byte2 (s.journal.length - n)
               ++ (s.journal.take n).flatMap Record.bytes⟩ }))
    ∧ ∀ (s : State) (n : Nat), s.acknowledges .office = true → n = 0 ∨ 8 < n →
        exec (.takeJournal n) s = .next (State.drive { s with office := s.office.answered ⟨.badValue, []⟩ })

/-! ## Framing -/

/-- R172, R173, R174, R176: the frame of every well-formed request is judged to be that request on its port, and as a
write frame it does what the request does. (a request stands for its whole frame: log entry 11) -/
def Obligations.FrameSpellsRequest : Prop :=
  ∀ (i : Instr) (p : Port) (f : List Byte),
    i.wf = true → requestPort i = some p → requestFrame i = some f →
    judgeFrame p f = .request i ∧ ∀ s : State, exec (.writeFrame p f) s = exec i s

/-- R172, R173, R176: the frames that are not performed. A request of one port, framed on the other, is refused with
NOT_PERMITTED. An empty frame ends with nothing held. An overlong frame, one of fewer than 3 bytes, or one whose
length is not its operand count plus 3 is refused with BAD_LENGTH. A frame of the right length whose bytes do not sum
to 0 is refused with CHECK, which raises the port's own flag. A good frame of a code outside the catalogue is refused
with UNKNOWN_REQUEST, and one of a permitted code whose operand count is not the catalogue's, or not the one that an
announcing operand calls for, with BAD_LENGTH. -/
def Obligations.FramesRefused : Prop :=
  (∀ (i : Instr) (f : List Byte) (s : State), i.wf = true → requestFrame i = some f →
     (requestPort i = some .office → codePorts ((requestBytes i).map (·.1) |>.getD 0) = some [.office] →
         s.acknowledges .field = true →
         exec (.writeFrame .field f) s = .next (State.drive { s with field := s.field.answered ⟨.notPermitted, []⟩ }))
     ∧ (requestPort i = some .field → codePorts ((requestBytes i).map (·.1) |>.getD 0) = some [.field] →
         s.acknowledges .office = true →
         exec (.writeFrame .office f) s = .next (State.drive { s with office := s.office.answered ⟨.notPermitted, []⟩ })))
    ∧ (∀ (s : State) (p : Port), s.acknowledges p = true →
        exec (.writeFrame p []) s =
            .next (s.modPort p (fun q => { q with frame := .idle, buffer := [], timer := none })).drive
        ∧ (∀ bytes : List Byte, bytes ≠ [] → (bytes.length < 3 ∨ 63 < bytes.length) →
            FrameRefused s p bytes .badLength)
        ∧ (∀ (code n : Byte) (rest : List Byte), rest.length ≠ n.toNat + 1 → rest.length ≤ 61 → rest ≠ [] →
            FrameRefused s p (code :: n :: rest) .badLength)
        ∧ (∀ (code n : Byte) (rest : List Byte), rest.length = n.toNat + 1 → rest.length ≤ 61 →
            sumOf (code :: n :: rest) ≠ 0 →
            exec (.writeFrame p (code :: n :: rest)) s =
              .next (s.modPort p (fun q => { q.answered ⟨.check, []⟩ with flags := q.flags ||| 0x0400 })).drive))
    ∧ ∀ (s : State) (p : Port) (code : Nat) (l : List Byte), s.acknowledges p = true → code < 256 → l.length ≤ 60 →
        (code = 0 ∨ 0x05 ≤ code ∧ code ≤ 0x0F ∨ 0x1A ≤ code ∧ code ≤ 0x1F ∨ 0x29 ≤ code ∧ code ≤ 0x2F ∨ 0x37 ≤ code →
          FrameRefused s p (frameOf code l) .unknownRequest)
        ∧ ((match p with | .field => code ≤ 0x04 ∨ 0x30 ≤ code | .office => 0x10 ≤ code) →
          (∀ n : Nat, (code, n) ∈
              [(0x01, 5), (0x02, 1), (0x03, 1), (0x04, 2), (0x10, 4), (0x12, 2), (0x14, 4), (0x17, 18), (0x19, 2),
                (0x20, 5), (0x21, 2), (0x22, 1), (0x23, 6), (0x24, 0), (0x25, 1), (0x26, 1), (0x27, 4), (0x28, 0),
                (0x31, 1), (0x32, 1), (0x33, 0), (0x34, 0), (0x35, 2), (0x36, 2)] →
            l.length ≠ n → FrameRefused s p (frameOf code l) .badLength)
          ∧ (code = 0x11 → l.length ≠ 5 + 2 * (l.getD 4 0).toNat → FrameRefused s p (frameOf code l) .badLength)
          ∧ (code = 0x13 → l.length ≠ 7 + credentialFieldLength (l.getD 6 0) →
              FrameRefused s p (frameOf code l) .badLength)
          ∧ (code = 0x15 → l.length ≠ 5 + 5 * (l.getD 1 0).toNat → FrameRefused s p (frameOf code l) .badLength)
          ∧ (code = 0x16 → l.length ≠ 1 + 2 * (l.getD 0 0).toNat → FrameRefused s p (frameOf code l) .badLength)
          ∧ (code = 0x18 → l.length ≠ 8 + (l.getD 3 0).toNat → FrameRefused s p (frameOf code l) .badLength)
          ∧ (code = 0x30 → l = [] → FrameRefused s p (frameOf code l) .badLength)
          ∧ ∀ k n : Nat, (k, n) ∈ [(0, 2), (1, 2), (2, 4), (3, 2), (4, 1), (5, 0), (6, 1), (7, 1), (8, 0)] →
              code = 0x30 → l.head? = some (BitVec.ofNat 8 k) → l.length ≠ 1 + n →
              FrameRefused s p (frameOf code l) .badLength)

/-- R171, R172, R175: the life of a frame. An ended read returns the held reply, or UNKNOWN_REQUEST where none is
held, and 0xFF beyond its check byte; the held reply and the flags stay. A start with the port's own address opens a
write frame, and a read that goes on opens a read frame, whose timer expires at the third tick after; its expiry
abandons the frame, keeps the held reply and raises FRAME_TIMEOUT on that port; the next start or stop ends
DISCARDING. (what the master clocks out is the command's operand: log entry 13) -/
def Obligations.FramesOpenAndEnd : Prop :=
  (∀ (s : State) (p : Port) (count : Nat), s.acknowledges p = true →
     ∃ t, exec (.readFrame p count true) s = .next t
       ∧ (t.port p).sent.length = count
       ∧ (t.port p).reply = (s.port p).reply ∧ (t.port p).flags = (s.port p).flags ∧ (t.port p).frame = .idle
       ∧ (∀ r : Reply, (s.port p).reply = some r → r.bytes.length ≤ 255 → count ≤ r.bytes.length + 3 →
           (t.port p).sent =
             ([BitVec.ofNat 8 r.result.code, BitVec.ofNat 8 r.bytes.length] ++ r.bytes
               ++ [0 - (BitVec.ofNat 8 r.result.code + BitVec.ofNat 8 r.bytes.length + sumOf r.bytes)]).take count)
       ∧ ((s.port p).reply = none → count = 4 → (t.port p).sent = [0x02, 0x00, 0xFE, 0xFF])
       ∧ t.roster = s.roster ∧ t.portals = s.portals ∧ t.cars = s.cars ∧ t.store = s.store ∧ t.journal = s.journal)
    ∧ ∀ (s : State) (p : Port),
        (s.acknowledges p = true →
            exec (.frameStart p (s.port p).address) s =
              .next (s.modPort p
                (fun q => { q with frame := .write, buffer := [], timer := some (s.clock.tick + 3) })).drive)
        ∧ (∀ count : Nat, s.acknowledges p = true →
            ∃ t, exec (.readFrame p count false) s = .next t
              ∧ (t.port p).frame = .read ∧ (t.port p).timer = some (s.clock.tick + 3)
              ∧ (t.port p).reply = (s.port p).reply ∧ (t.port p).flags = (s.port p).flags)
        ∧ (s.running = true → (s.port p).timer = some s.clock.tick →
            exec (.frameTimeout p) s =
              .next (s.modPort p
                (fun q =>
                  { q with frame := .discarding, buffer := [], timer := none, flags := q.flags ||| 0x0800 })).drive)
        ∧ ((s.port p).frame = .discarding →
            exec (.discardingEnd p) s = .next (s.modPort p (fun q => { q with frame := .idle })).drive)

/-! ## Reads and event flags -/

/-- R25, R78, R107, R133, R146, R168, R169: each of the reading requests is answered and changes nothing but its own
port. -/
def Obligations.ReadsChangeNothing : Prop :=
  ∀ (s : State) (p : Port), s.acknowledges p = true →
    (∀ kind key : Nat, ∃ r, exec (.readRecord p kind key) s = .next (s.modPort p (fun q => q.answered r)).drive)
    ∧ (∀ n : Nat, ∃ r, exec (.readPortal p n) s = .next (s.modPort p (fun q => q.answered r)).drive)
    ∧ (∀ n : Nat, ∃ r, exec (.readCar p n) s = .next (s.modPort p (fun q => q.answered r)).drive)
    ∧ (∃ r, exec (.readStatus p) s = .next (s.modPort p (fun q => q.answered r)).drive)
    ∧ (∃ r, exec (.readEvents p) s = .next (s.modPort p (fun q => q.answered r)).drive)
    ∧ (p = .office → ∃ r, exec .listReferrals s = .next (s.modPort p (fun q => q.answered r)).drive)
    ∧ (p = .office → ∀ n : Nat, ∃ r, exec (.readRoster n) s = .next (s.modPort p (fun q => q.answered r)).drive)

/-- R25, R78, R107, R133, R146, R168, R169: what the reads report. On the Field Port a read of tenancy data whose key
is in range is answered with 0xFF bytes alone, whether or not the record exists; on the Office Port a unit is answered
with its fields, or with NOT_FOUND. READ_EVENTS gives the port's own flags and mask; READ_PORTAL a SECURE portal's
mode, hold, verdict, position and zeros for its cycle; READ_CAR an empty car, and a car with an open session with its
passengers in order and between 1 and 12,000 ticks of session remaining, those to its expiry while that lies ahead;
READ_ROSTER the length and the start index where no entry lies beyond it; LIST_REFERRALS the counts of an empty list;
READ_STATUS every item in its order. (presence bytes and positions: log entry 21; the session remaining at the expiry's
own tick: log entry 30) -/
def Obligations.ReadsReport : Prop :=
  (∀ (s : State) (key : Nat),
    (s.acknowledges .field = true →
      (key ≤ 4095 → exec (.readRecord .field 0 key) s =
          .next (State.drive { s with field := s.field.answered ⟨.ok, List.replicate 7 0xFF⟩ }))
      ∧ (key ≤ 1023 → exec (.readRecord .field 1 key) s =
          .next (State.drive { s with field := s.field.answered ⟨.ok, List.replicate 22 0xFF⟩ }))
      ∧ (1 ≤ key → key ≤ 4294967294 → exec (.readRecord .field 2 key) s =
          .next (State.drive { s with field := s.field.answered ⟨.ok, List.replicate 15 0xFF⟩ }))
      ∧ (key ≤ 2047 → exec (.readRecord .field 3 key) s =
          .next (State.drive { s with field := s.field.answered ⟨.ok, List.replicate 15 0xFF⟩ }))
      ∧ (key ≤ 15 → exec (.readRecord .field 4 key) s =
          .next (State.drive { s with field := s.field.answered ⟨.ok, List.replicate 34 0xFF⟩ }))
      ∧ exec (.readRecord .field 5 key) s =
          .next (State.drive { s with field := s.field.answered ⟨.ok, List.replicate 49 0xFF⟩ }))
    ∧ (s.acknowledges .office = true → key ≤ 4095 →
      (s.store.mirror.units.find? key = none →
        exec (.readRecord .office 0 key) s =
          .next (State.drive { s with office := s.office.answered ⟨.notFound, []⟩ }))
      ∧ ∀ u : UnitRec, s.store.mirror.units.find? key = some u →
        exec (.readRecord .office 0 key) s =
          .next (State.drive
            { s with
              office := s.office.answered
                ⟨.ok, byte1 (if u.tenancy.isSome then 1 else 0) ++ byte2 key ++ byte1 u.zone ++ byte1 u.state.code
                  ++ byte2 (u.tenancy.getD 0xFFFF)⟩ })))
  ∧ ∀ (s : State),
    (∀ p : Port, s.acknowledges p = true →
      exec (.readEvents p) s =
        .next (s.modPort p
          (fun q => q.answered ⟨.ok, byte2 q.flags.toNat ++ byte2 q.mask.toNat⟩)).drive)
    ∧ (∀ (p : Port) (n : Fin 16), s.acknowledges p = true → CyclesClosed s → s.portals[n].leaf = .secure →
      exec (.readPortal p n.val) s =
        .next (s.modPort p (fun q => q.answered
          ⟨.ok, ([0] : List Byte) ++ byte1 s.portals[n].mode.code
            ++ byte1 (match s.portals[n].hold with | some m => m.code | none => 0xFF)
            ++ byte1 (if s.portals[n].verdict = .inWindow then 0 else 1) ++ [0, 0, 0, 1]
            ++ byte1 s.portals[n].position.code ++ [0, 0, 0, 0]⟩)).drive)
    ∧ (∀ (p : Port) (c : Fin 4), s.acknowledges p = true → s.cars[c].timer = none → s.cars[c].passengers = [] →
      exec (.readCar p c.val) s =
        .next (s.modPort p (fun q => q.answered
          ⟨.ok, byte1 c.val ++ byte1 (if (s.carRec c).enabled then 0 else 1) ++ byte1 (s.carRec c).mode.code
            ++ byte1 (s.cars[c].landing.getD 0xFF) ++ byte1 s.cars[c].session.code ++ [0, 0, 0]⟩)).drive)
    ∧ (∀ (p : Port) (c : Fin 4) (e : Nat), s.acknowledges p = true → s.cars[c].timer = some e →
        e ≤ s.clock.tick + 12000 →
      ∃ n : Nat, 1 ≤ n ∧ n ≤ 12000 ∧ (s.clock.tick < e → n = e - s.clock.tick)
        ∧ exec (.readCar p c.val) s =
          .next (s.modPort p (fun q => q.answered
            ⟨.ok, byte1 c.val ++ byte1 (if (s.carRec c).enabled then 0 else 1) ++ byte1 (s.carRec c).mode.code
              ++ byte1 (s.cars[c].landing.getD 0xFF) ++ byte1 s.cars[c].session.code ++ byte2 n
              ++ byte1 s.cars[c].passengers.length
              ++ s.cars[c].passengers.flatMap (fun x => byte4 x.id ++ byte2 x.landings.toNat)⟩)).drive)
    ∧ (∀ start : Nat, s.acknowledges .office = true → s.roster.length ≤ start → start ≤ 255 →
      exec (.readRoster start) s =
        .next (State.drive
          { s with office := s.office.answered ⟨.ok, byte2 s.roster.length ++ byte1 start ++ [0]⟩ }))
    ∧ (s.acknowledges .office = true → s.referrals = [] →
      exec .listReferrals s = .next (State.drive { s with office := s.office.answered ⟨.ok, [0, 0]⟩ }))
    ∧ (∀ p : Port, s.acknowledges p = true → s.referrals = [] → (∀ q : Fin 16, s.portals[q].moves = []) →
      exec (.readStatus p) s =
        .next (s.modPort p (fun q => q.answered
          ⟨.ok, byte1 (if s.store.phase = .programming then 1 else 0)
            ++ byte1 (if s.pins.straps.storeWp = true then 0 else 1) ++ byte2 s.store.marks.length
            ++ byte1 (if s.clock.valid = true then 0 else 1) ++ byte2 s.clock.day ++ byte2 s.clock.minute
            ++ byte1 s.clock.second ++ byte1 (if s.fire.active = true then 1 else 0)
            ++ byte1 (if s.fire.latch = true then 1 else 0) ++ byte1 (if s.alarming = true then 0 else 1)
            ++ ([0, 1, 2, 3] : List (Fin 4)).flatMap (fun g =>
                byte1 (if s.pulling g = true then 0 else 1) ++ byte1 (if s.lineHigh g = true then 0 else 1))
            ++ byte2 s.journal.length ++ byte2 s.roster.length ++ [0, 0, 0]⟩)).drive)

/-- R156, R167, R168: CLEAR_EVENTS and SET_EVENT_MASK. CLEAR_EVENTS clears the named flags of its own port. Naming
TAMPER on the Office Port with the latch set clears the latch while TAMPER is negated, and otherwise keeps it and
leaves the flag set. SET_EVENT_MASK replaces the port's mask whole and changes nothing else, and the port's attention
line, OATTN or FATTN, is then asserted exactly while a flag of the port is set and not masked. On either port a set that
names a flag that is not the port's is refused with BAD_VALUE, by both requests. -/
def Obligations.FlagsAndMasks : Prop :=
  (∀ (s : State) (flags : Set16),
     (s.acknowledges .field = true → flags &&& ~~~0x3DF0#16 = 0 →
       exec (.clearEvents .field flags) s =
         .next (State.drive
           { s with
             field :=
               { s.field.answered ⟨.ok, byte2 (s.field.flags &&& ~~~flags).toNat⟩ with
                 flags := s.field.flags &&& ~~~flags } }))
     ∧ (s.acknowledges .office = true → flags &&& ~~~0x0FFF#16 = 0 →
         (flags.getLsbD 8 = false ∨ s.fire.latch = false) →
       exec (.clearEvents .office flags) s =
         .next (State.drive
           { s with
             office :=
               { s.office.answered ⟨.ok, byte2 (s.office.flags &&& ~~~flags).toNat⟩ with
                 flags := s.office.flags &&& ~~~flags } }))
     ∧ (s.acknowledges .office = true → flags &&& ~~~0x0FFF#16 = 0 → flags.getLsbD 8 = true → s.fire.latch = true →
         s.pins.tamper = false →
       exec (.clearEvents .office flags) s =
         .next (State.drive
           { s with
             fire := { s.fire with latch := false, tamperFilter := none }
             office :=
               { s.office.answered ⟨.ok, byte2 (s.office.flags &&& ~~~flags).toNat⟩ with
                 flags := s.office.flags &&& ~~~flags } }))
     ∧ (s.acknowledges .office = true → flags &&& ~~~0x0FFF#16 = 0 → flags.getLsbD 8 = true → s.fire.latch = true →
         s.pins.tamper = true →
       exec (.clearEvents .office flags) s =
         .next (State.drive
           { s with
             office :=
               { s.office.answered ⟨.ok, byte2 ((s.office.flags &&& ~~~flags) ||| 0x0100).toNat⟩ with
                 flags := (s.office.flags &&& ~~~flags) ||| 0x0100 } }))
     ∧ (s.acknowledges .field = true → flags &&& ~~~0x3DF0#16 ≠ 0 →
       exec (.clearEvents .field flags) s = .next (State.drive { s with field := s.field.answered ⟨.badValue, []⟩ }))
     ∧ (s.acknowledges .office = true → flags &&& ~~~0x0FFF#16 ≠ 0 →
       OfficeRefuses s (.clearEvents .office flags) .badValue))
    ∧ (∀ (s : State) (mask : Set16), s.acknowledges .office = true →
        (mask &&& ~~~0x0FFF#16 = 0 →
          ∃ t, exec (.setEventMask .office mask) s = .next t
            ∧ t = { s with office := { s.office.answered ⟨.ok, byte2 mask.toNat⟩ with mask := mask }, outs := t.outs }
            ∧ (t.outs.oattn = true ↔ s.office.flags &&& ~~~mask ≠ 0))
        ∧ (mask &&& ~~~0x0FFF#16 ≠ 0 →
          OfficeRefuses s (.setEventMask .office mask) .badValue))
    ∧ ∀ (s : State) (mask : Set16), s.acknowledges .field = true →
        (mask &&& ~~~0x3DF0#16 = 0 →
          ∃ t, exec (.setEventMask .field mask) s = .next t
            ∧ t = { s with field := { s.field.answered ⟨.ok, byte2 mask.toNat⟩ with mask := mask }, outs := t.outs }
            ∧ (t.outs.fattn = true ↔ s.field.flags &&& ~~~mask ≠ 0))
        ∧ (mask &&& ~~~0x3DF0#16 ≠ 0 →
          exec (.setEventMask .field mask) s = .next (State.drive { s with field := s.field.answered ⟨.badValue, []⟩ }))

/-! ## The Site Clock -/

/-- R32, R33: SET_CLOCK loads the time, resets the tick phase and makes the clock VALID; its record carries the new
time and a count of 1 if the clock was UNSET. The tick count and the retention mark stay. -/
def Obligations.SetClockLoads : Prop :=
  ∀ (s : State) (day minute second : Nat), s.acknowledges .office = true →
    (day ≤ 65535 → minute ≤ 1439 → second ≤ 59 →
      ∃ t, exec (.setClock day minute second) s = .next t
        ∧ t.clock = { day := day, minute := minute, second := second, valid := true, phase := 0, tick := s.clock.tick,
                      mark := s.clock.mark, boundaryDue := false }
        ∧ t.journal.getLast? =
            some { kind := .clockSet, day := day, minute := minute, second := second, gap := false, subject := none,
                   id := none, outcome := none, reason := none, count := some (if s.clock.valid then 0 else 1),
                   secondCount := none, ticket := none }
        ∧ t.office.reply = some ⟨.ok, []⟩
        ∧ t = { s with clock := t.clock, journal := t.journal, office := t.office, outs := t.outs })
    ∧ (65535 < day ∨ 1439 < minute ∨ 59 < second →
      exec (.setClock day minute second) s =
        .next (State.drive { s with office := s.office.answered ⟨.badValue, []⟩ }))

/-- R28: a tick that ends no second advances the tick count and the tick phase by 1, and a tick that ends a second but
no minute returns the phase to 0 and advances the second, whatever events of timers the tick takes first. The tick
that ends a minute is the minute boundary: the minute advances, at the end of minute 1,439 the day, and after day
65,535 comes day 0. A TICK that carries pin levels carries no VBAT failure under which the domain would have no power.
(the events a tick takes, and the boundary: log entries 7 and 8; the levels a TICK carries: log entry 14) -/
def Obligations.ClockAdvances : Prop :=
  (∀ (s : State) (x : Option Straps), s.clockPowered = true → s.clock.boundaryDue = false →
     (s.power.main = true ∨ ∀ y : Straps, x = some y → y.vbat = true) →
     (s.clock.phase < 99 → ∃ t, exec (.tick x) s = .next t
       ∧ t.clock = { s.clock with tick := s.clock.tick + 1, phase := s.clock.phase + 1 })
     ∧ (s.clock.phase = 99 → s.clock.second < 59 → ∃ t, exec (.tick x) s = .next t
       ∧ t.clock = { s.clock with tick := s.clock.tick + 1, phase := 0, second := s.clock.second + 1 }))
    ∧ ∀ s : State, s.clockPowered = true → s.clock.boundaryDue = false → s.clock.phase = 99 → s.clock.second = 59 →
        exec (.tick none) s = exec .minuteBoundary s
        ∧ ∃ t, exec .minuteBoundary s = .next t
          ∧ t.clock = { s.clock with
              tick := s.clock.tick + 1
              phase := 0
              second := 0
              minute := if s.clock.minute < 1439 then s.clock.minute + 1 else 0
              day := if s.clock.minute < 1439 then s.clock.day else (s.clock.day + 1) % 65536 }

/-- R28, R31, R34, R73, R74, R76, R99, R100: a minute boundary. A boundary that has come, or that the tick to come
brings where no timer is due, advances the minute. A running part then delivers it: every portal judges its schedule for
the new minute and stands at the effective mode that fire, hold, new verdict and base mode give. Where no portal changes
mode, every roster entry is stepped for the new minute under a CLEAR fire state, and none under an ACTIVE one; each
entry whose overstay flag is then set has its OVERSTAY record, in list order, and the flag is raised; nothing else
changes. A part that does not run advances the clock alone. An entry's step: its counter rises while its profile is OUT
and returns to 0 while it is IN, saturating at 255, the overstay flag standing exactly while the counter exceeds the
exit grace. (what a tick takes before its boundary: log entry 7; the Roster before the portals: log entry 9) -/
def Obligations.BoundaryCounts : Prop :=
  (∀ (s : State) (k : Clock),
    (s.clock.boundaryDue = true ∧ k = s.clock.nextMinute)
      ∨ (s.clock.endsMinute = true ∧ s.settleDue = s ∧ k = s.clock.advance.nextMinute) →
    (s.running = true →
      ∃ t, exec .minuteBoundary s = .next t
        ∧ t.clock = k
        ∧ (∀ p : Fin 16,
            t.portals[p].verdict = State.scheduleVerdict { s with clock := k } p
              ∧ t.portals[p].hold = s.portals[p].hold
              ∧ t.portals[p].mode =
                  (if s.egressUnderFire p = true then .free
                   else match s.portals[p].hold with
                     | some m => m
                     | none => if t.portals[p].verdict = .inWindow then .free else (s.portalRec p).baseMode.mode))
        ∧ ((∀ p : Fin 16, t.portals[p].mode = s.portals[p].mode) →
            t.roster =
                (if s.fire.active = true then s.roster else s.roster.map (State.stepEntry { s with clock := k }))
              ∧ (∀ p : Fin 16, t.portals[p] = { s.portals[p] with verdict := t.portals[p].verdict })
              ∧ (s.fire.active = false →
                  (∀ e ∈ s.roster, e.overstay = false → (State.stepEntry { s with clock := k } e).overstay = true →
                    t.office.flags.getLsbD 3 = true)
                  ∧ (s.journal.length + s.roster.length ≤ 512 →
                      t.journal = s.journal ++
                        (s.roster.filter (fun e =>
                          !e.overstay && (State.stepEntry { s with clock := k } e).overstay)).map (fun e =>
                            { State.blankRecord { s with clock := k } .overstay with
                              id := some e.id
                              count := some (State.stepEntry { s with clock := k } e).counter })))
              ∧ (s.fire.active = true → t.journal = s.journal ∧ t.office = s.office)
              ∧ t = { s with
                  clock := t.clock, portals := t.portals, roster := t.roster, journal := t.journal, office := t.office,
                  outs := t.outs }))
    ∧ (s.running = false → s.clock.boundaryDue = true →
        exec .minuteBoundary s = .next (State.drive { s with clock := k })))
    ∧ ∀ (s : State) (e : RosterEntry),
        (s.verdict (s.entryProfile e) = .inWindow →
          s.stepEntry e = { e with counter := 0, overstay := false })
        ∧ (s.verdict (s.entryProfile e) = .outWindow → e.counter ≤ 255 →
          (s.stepEntry e).counter = (if e.counter = 255 then 255 else e.counter + 1)
            ∧ ((s.stepEntry e).overstay = true ↔
                (profileOf s.store.mirror (s.entryProfile e)).grace < (s.stepEntry e).counter)
            ∧ (s.stepEntry e).zone = e.zone ∧ (s.stepEntry e).muster = e.muster ∧ (s.stepEntry e).car = e.car)

/-- R35, R36, R37: the day class of a day is 7 if the holiday list of the mirror holds it and otherwise the day mod 7.
While the clock is UNSET every profile 0 to 14 is OUT; while it is VALID a profile is IN exactly when one of its
windows lists the day class, has an open minute no greater than the minute and a close minute greater than it; a
profile that no slot gave has no windows and is OUT. Profile 15 is IN at every minute of every day, in either clock
state. -/
def Obligations.WindowVerdict : Prop :=
  ∀ (s : State) (n : Nat),
    (s.clock.valid = false → n ≠ 15 → s.verdict n = .outWindow)
    ∧ (s.clock.valid = true → (s.verdict n = .inWindow ↔
        ∃ w ∈ (profileOf s.store.mirror n).windows, w.classes.getLsbD (dayClass s.store.mirror s.clock.day) = true
          ∧ w.openMinute ≤ s.clock.minute ∧ s.clock.minute < w.closeMinute))
    ∧ (s.verdict n = .inWindow ∨ s.verdict n = .outWindow)
    ∧ (n ≠ 15 → s.store.mirror.profiles.find? n = none → s.verdict n = .outWindow)
    ∧ (s.clock.minute < 1440 → s.verdict 15 = .inWindow)
    ∧ ∀ d : Nat, dayClass s.store.mirror d = if d ∈ s.store.mirror.holidays then 7 else d % 7

/-! ## The Tenancy Store -/

/-- R10, R12, R13, R15 to R21: refused puts and drops change no slot and no record. While STORE_WP is asserted every one
is refused with WRITE_PROTECTED, whatever its operands. With STORE_WP negated: an operand outside its range, or operands
inconsistent among themselves, are refused with BAD_VALUE, and so is a state change that the table of R12 does not
allow; an absent unit, tenancy or credential with NOT_FOUND; a listed unit in MAINTENANCE or of another tenancy with
CONFLICT; a tenancy that a credential names with IN_USE; a ninth credential of a tenancy, and a new credential beyond
2,048, with FULL. -/
def Obligations.PutsRefused : Prop :=
  (∀ (s : State) (c : Instr), s.acknowledges .office = true → s.pins.straps.storeWp = true →
     ((∃ a b d, c = .putUnit a b d) ∨ (∃ a b d us, c = .putTenancy a b d us) ∨ (∃ a, c = .dropTenancy a)
       ∨ (∃ o, c = .putCredential o) ∨ (∃ a, c = .dropCredential a) ∨ (∃ a ws z g, c = .putProfile a ws z g)
       ∨ (∃ ds, c = .putHolidays ds) ∨ (∃ a o, c = .putPortal a o) ∨ (∃ a o, c = .putCar a o) ∨ ∃ a, c = .putSite a) →
     OfficeRefuses s c .writeProtected)
    ∧ ∀ s : State, s.acknowledges .office = true → s.pins.straps.storeWp = false →
        -- PUT_UNIT
        (∀ n z k : Nat, 4095 < n ∨ z = 0 ∨ 15 < z ∨ 4 < k → OfficeRefuses s (.putUnit n z k) .badValue)
        ∧ (∀ n z k : Nat, s.store.mirror.units.find? n = none → (k = 1 ∨ k = 2 ∨ k = 3) →
            OfficeRefuses s (.putUnit n z k) .badValue)
        ∧ (∀ (n z k : Nat) (u : UnitRec), s.store.mirror.units.find? n = some u →
            (u.state = .vacant ∨ u.state = .maintenance) → (k = 1 ∨ k = 2 ∨ k = 3) →
            OfficeRefuses s (.putUnit n z k) .badValue)
        ∧ (∀ (n z k : Nat) (u : UnitRec), s.store.mirror.units.find? n = some u →
            (u.state = .rented ∨ u.state = .overlocked ∨ u.state = .auctionHold) → (k = 0 ∨ k = 4) →
            OfficeRefuses s (.putUnit n z k) .badValue)
        -- PUT_TENANCY
        ∧ (∀ (n k pr : Nat) (us : List Nat),
            1023 < n ∨ 3 < k ∨ 15 < pr ∨ us.length = 0 ∨ 8 < us.length ∨ (∃ u ∈ us, 4095 < u) ∨ ¬us.Nodup →
            OfficeRefuses s (.putTenancy n k pr us) .badValue)
        ∧ (∀ (n k pr : Nat) (us : List Nat), n ≤ 1023 → k ≤ 3 → pr ≤ 15 → 1 ≤ us.length → us.length ≤ 8 →
            (∀ u ∈ us, u ≤ 4095) → us.Nodup →
            ((∃ u ∈ us, s.store.mirror.units.find? u = none) → OfficeRefuses s (.putTenancy n k pr us) .notFound)
            ∧ ((∀ u ∈ us, (s.store.mirror.units.find? u).isSome = true) →
                (∃ u ∈ us, ∃ r, s.store.mirror.units.find? u = some r
                  ∧ (r.state = .maintenance ∨ (r.state ≠ .vacant ∧ r.tenancy ≠ some n))) →
                OfficeRefuses s (.putTenancy n k pr us) .conflict))
        -- DROP_TENANCY
        ∧ (∀ n : Nat, 1023 < n → OfficeRefuses s (.dropTenancy n) .badValue)
        ∧ (∀ n : Nat, n ≤ 1023 → s.store.mirror.tenancies.find? n = none → OfficeRefuses s (.dropTenancy n) .notFound)
        ∧ (∀ n : Nat, n ≤ 1023 → (s.store.mirror.tenancies.find? n).isSome = true →
            0 < s.store.mirror.namingCount n none → OfficeRefuses s (.dropTenancy n) .inUse)
        -- PUT_CREDENTIAL
        ∧ (∀ o : CredentialOperands,
            o.id = 0 ∨ 4294967294 < o.id ∨ 2 < o.kind ∨ 1 < o.status
              ∨ (o.kind ≤ 1 ∧ (o.tenancy = none ∨ o.staffProfile ≠ none ∨ o.staffZones ≠ none))
              ∨ (o.kind = 0 ∧ (o.expiry ≠ none ∨ o.budget ≠ none))
              ∨ (o.kind = 2
                  ∧ (o.tenancy ≠ none ∨ o.expiry ≠ none ∨ o.budget ≠ none ∨ o.staffProfile = none
                    ∨ o.staffZones = none))
              ∨ (∃ x, o.tenancy = some x ∧ 1023 < x) ∨ (∃ x, o.expiry = some x ∧ 65535 < x)
              ∨ (∃ x, o.budget = some x ∧ 255 < x) ∨ (∃ x, o.staffProfile = some x ∧ 15 < x)
              ∨ (∃ x, o.staffZones = some x ∧ x.getLsbD 0 = true) →
            OfficeRefuses s (.putCredential o) .badValue)
        ∧ (∀ (o : CredentialOperands) (r : CredRec) (n : Nat), credRecOf o = some r → r.tenancy = some n →
            (s.store.mirror.tenancies.find? n = none → OfficeRefuses s (.putCredential o) .notFound)
            ∧ ((s.store.mirror.tenancies.find? n).isSome = true → 8 ≤ s.store.mirror.namingCount n (some o.id) →
                OfficeRefuses s (.putCredential o) .full))
        ∧ (∀ (o : CredentialOperands) (r : CredRec), credRecOf o = some r →
            (∀ n, r.tenancy = some n →
              (s.store.mirror.tenancies.find? n).isSome = true ∧ s.store.mirror.namingCount n (some o.id) < 8) →
            s.store.mirror.credentials.find? o.id = none → 2048 ≤ s.store.mirror.credentials.size →
            OfficeRefuses s (.putCredential o) .full)
        -- DROP_CREDENTIAL
        ∧ (∀ id : Nat, id = 0 ∨ 4294967294 < id → OfficeRefuses s (.dropCredential id) .badValue)
        ∧ (∀ id : Nat, 1 ≤ id → id ≤ 4294967294 → s.store.mirror.credentials.find? id = none →
            OfficeRefuses s (.dropCredential id) .notFound)
        -- PUT_PROFILE, PUT_HOLIDAYS
        ∧ (∀ (n : Nat) (ws : List WindowOperand) (z : Set16) (g : Nat),
            14 < n ∨ 6 < ws.length
              ∨ (∃ w ∈ ws, w.classes = 0 ∨ 1439 < w.openMinute ∨ 1440 < w.closeMinute ∨ w.closeMinute ≤ w.openMinute)
              ∨ z.getLsbD 0 = true ∨ 240 < g →
            OfficeRefuses s (.putProfile n ws z g) .badValue)
        ∧ (∀ days : List Nat, 24 < days.length ∨ ¬days.Nodup → OfficeRefuses s (.putHolidays days) .badValue)
        -- PUT_PORTAL, PUT_CAR
        ∧ (∀ (p : Nat) (o : PortalOperands),
            15 < p ∨ 1 < o.enabled ∨ 15 < o.outer ∨ o.inner = 0 ∨ 15 < o.inner ∨ o.inner = o.outer ∨ 2 < o.baseMode
              ∨ (14 < o.freeProfile ∧ o.freeProfile ≠ 0xFF) ∨ o.unlockCount = 0 ∨ 255 < o.unlockCount
              ∨ 1 < o.unlockBase ∨ 255 < o.heldLimit ∨ 2 < o.passback ∨ 1 < o.leafSensor ∨ 1 < o.beam
              ∨ 1 < o.exitButton ∨ 1 < o.egress ∨ 1 < o.polarity ∨ (3 < o.group ∧ o.group ≠ 0xFF) ∨ 1 < o.fallback
              ∨ o.timeout < 5 ∨ 60 < o.timeout →
            OfficeRefuses s (.putPortal p o) .badValue)
        ∧ ∀ (c : Nat) (o : CarOperands),
            3 < c ∨ 1 < o.enabled ∨ o.landings = 0 ∨ 16 < o.landings ∨ o.zones.length ≠ o.landings
              ∨ (∃ z ∈ o.zones, z = 0 ∨ 15 < z) ∨ o.landings ≤ o.home ∨ 1 < o.mode ∨ 2 < o.passback ∨ o.window < 5
              ∨ 120 < o.window →
            OfficeRefuses s (.putCar c o) .badValue

/-- R10, R12 to R21: the puts and drops are taken when their checks pass, and the Store then programs the slots their
rules name. The puts of profile, holidays, portal and car program one slot with the record they carry; PUT_UNIT the unit
with its tenancy unchanged; PUT_TENANCY freed units, tenancy, assigned units; DROP_TENANCY vacated units and the erased
tenancy; PUT_CREDENTIAL its slot; DROP_CREDENTIAL its slot and the duplicates of its id. A put that is taken while a
write-back is programming waits for it, with the Office Port busy. -/
def Obligations.PutsTaken : Prop :=
  (∀ s : State, s.acknowledges .office = true → s.pins.straps.storeWp = false → s.store.job = none →
    (∀ days : List Nat, days.length ≤ 24 → (∀ d ∈ days, d ≤ 65535) → days.Nodup →
        exec (.putHolidays days) s = .next (s.programming [.holidays (sortRising days)]))
    ∧ (∀ (n : Nat) (ws : List WindowOperand) (z : Set16) (g : Nat), n ≤ 14 → ws.length ≤ 6 → z.getLsbD 0 = false →
        g ≤ 240 →
        (∀ w ∈ ws, w.classes ≠ 0 ∧ w.openMinute ≤ 1439 ∧ w.closeMinute ≤ 1440 ∧ w.openMinute < w.closeMinute) →
        exec (.putProfile n ws z g) s =
          .next (s.programming [.profile n { windows := ws.map windowOf, common := z, grace := g }]))
    ∧ (∀ (p : Fin 16) (o : PortalOperands) (r : PortalRec), portalRecOf o = some r →
        exec (.putPortal p.val o) s = .next (s.programming [.portal p r]))
    ∧ (∀ (c : Fin 4) (o : CarOperands) (r : CarRec), carRecOf o = some r →
        exec (.putCar c.val o) s = .next (s.programming [.car c r]))
    ∧ (∀ (n z k : Nat) (st : UnitState), n ≤ 4095 → 1 ≤ z → z ≤ 15 → unitState? k = some st →
        unitChangeAllowed (s.store.mirror.units.find? n) st = true →
        exec (.putUnit n z k) s =
          .next (s.programming
            [.unit n { zone := z, state := st, tenancy := (s.store.mirror.units.find? n).bind (·.tenancy) }]))
    ∧ (∀ (n k pr : Nat) (st : TenancyState) (us : List Nat), n ≤ 1023 → tenancyState? k = some st → pr ≤ 15 →
        1 ≤ us.length → us.length ≤ 8 → us.Nodup →
        (∀ u ∈ us, u ≤ 4095 ∧ ∃ r, s.store.mirror.units.find? u = some r ∧ unitFreeFor n r = true) →
        exec (.putTenancy n k pr us) s =
          .next (s.programming
            (putTenancyWrites s.store.mirror n { state := st, profile := pr, units := sortRising us })))
    ∧ (∀ (n : Nat) (r : TenancyRec), n ≤ 1023 → s.store.mirror.tenancies.find? n = some r →
        s.store.mirror.namingCount n none = 0 →
        exec (.dropTenancy n) s =
          .next (s.programming
            ((sortRising r.units).filterMap (vacateWrite s.store.mirror) ++ [.tenancy n none])))
    ∧ (∀ (o : CredentialOperands) (r : CredRec) (k : Nat), credRecOf o = some r →
        (∀ t, r.tenancy = some t →
          (s.store.mirror.tenancies.find? t).isSome = true ∧ s.store.mirror.namingCount t (some o.id) < 8) →
        s.store.mirror.slotFor o.id = some k →
        exec (.putCredential o) s = .next (s.programming [.credential k (some { id := o.id, record := r })]))
    ∧ (∀ (id : Nat) (e : CredEntry), 1 ≤ id → id ≤ 4294967294 → s.store.mirror.credentials.find? id = some e →
        exec (.dropCredential id) s =
          .next (s.programming
            (.credential e.slot none
              :: (s.store.duplicates.entries.filter (fun d => d.2 == id)).map (fun d => .credential d.1 none)))))
    ∧ ∀ (s : State) (p : Fin 16) (o : PortalOperands) (r : PortalRec) (j : Job), s.acknowledges .office = true →
        s.pins.straps.storeWp = false → s.store.job = some j → portalRecOf o = some r →
        exec (.putPortal p.val o) s =
          .next (State.drive
            { s with
              store := { s.store with waiting := some [.portal p r] }
              office := { s.office with frame := .idle, buffer := [], timer := none, busy := true } })

/-- R11, R22: PUT_SITE. A limit outside 1 to 256 is refused with BAD_VALUE. Otherwise the Store programs the site
slot. At the verify the slot is VALID, the mirror holds the new limit, the Office Port holds OK and is free, and
nobody is removed. The occupancy check denies an arrival with FULL exactly while the persons on site and the pending
arrivals have reached the limit of the mirror. -/
def Obligations.SitePutsComplete : Prop :=
  ∀ (s : State) (n : Nat),
    (s.acknowledges .office = true → s.pins.straps.storeWp = false → n = 0 ∨ 256 < n →
      exec (.putSite n) s = .next (State.drive { s with office := s.office.answered ⟨.badValue, []⟩ }))
    ∧ (s.acknowledges .office = true → s.pins.straps.storeWp = false → s.store.job = none → 1 ≤ n → n ≤ 256 →
      exec (.putSite n) s = .next (s.programming [.site n]))
    ∧ (s.running = true → s.store.waiting = none →
        s.store.job = some { task := .request, writes := [.site n], verified := 0, retry := false } →
      exec (.slotVerified true) s =
        .next (State.drive
          { s with
            store :=
              { s.store with
                phase := .ready
                job := none
                slots := { s.store.slots with site := some (.valid n) }
                mirror := { s.store.mirror with siteLimit := n } }
            office := { s.office with busy := false, reply := some ⟨.ok, []⟩ } }))
    ∧ ∀ id : Nat, s.entryOf id = none →
        (s.checkFull id = some .full ↔ s.store.mirror.siteLimit ≤ s.roster.length + s.pendingArrivals)

/-- R11, R14 to R19, R21, R132: how programming goes on and ends. A verify that is not the last slot's leaves the slot
programmed, turns to the next slot and changes nothing else: the mirror keeps the old records. At the last slot's verify
the mirror takes every record of the request at once, the Store is READY, and the Office Port holds OK and is free. A put
of units, tenancies, profiles or holidays touches nothing else; a PUT_CAR makes a current landing unknown that is not
below the new landing count, and leaves the session alone; a PUT_CREDENTIAL discards the write-back mark of its id, and
gives the holder's roster entry the new tenancy where it changes the kind or the tenancy. What the mirror takes of each
record is what a read of that number then finds, and no other number changes. A write-back that verifies begins the put
that waits for it. -/
def Obligations.PutsComplete : Prop :=
  (∀ (s : State) (j : Job) (w : SlotWrite), s.running = true → s.store.job = some j →
    j.writes[j.verified]? = some w →
    (j.verified + 1 < j.writes.length →
      exec (.slotVerified true) s =
        .next (State.drive
          { s with
            store :=
              { s.store.program true w with
                job := some { j with verified := j.verified + 1, retry := false } } }))
    ∧ (j.verified + 1 = j.writes.length → j.task = .request → s.store.waiting = none →
      (∀ v ∈ j.writes,
        (∃ n r, v = .unit n r) ∨ (∃ n r, v = .tenancy n r) ∨ (∃ n r, v = .profile n r) ∨ ∃ days, v = .holidays days) →
      exec (.slotVerified true) s =
        .next (State.drive
          { s with
            store :=
              { s.store with
                phase := .ready
                job := none
                slots := s.store.slots.program true w
                mirror := j.writes.foldl Mirror.take s.store.mirror }
            office := { s.office with busy := false, reply := some ⟨.ok, []⟩ } }))
    ∧ (∀ (c : Fin 4) (r : CarRec), j.writes = [.car c r] → j.task = .request → s.store.waiting = none →
      exec (.slotVerified true) s =
        .next (State.drive
          { s with
            store :=
              { s.store with
                phase := .ready
                job := none
                slots := { s.store.slots with cars := s.store.slots.cars.put c.val (.valid r) }
                mirror := { s.store.mirror with cars := s.store.mirror.cars.set c r } }
            cars :=
              s.cars.set c
                { s.cars[c] with
                  landing :=
                    match s.cars[c].landing with
                    | some n => if n < r.landings then some n else none
                    | none => none }
            office := { s.office with busy := false, reply := some ⟨.ok, []⟩ } }))
    ∧ (∀ (k : Nat) (r : CredSlot), j.writes = [.credential k (some r)] → j.task = .request → s.store.waiting = none →
      (∀ x ∈ s.store.mirror.credentials.entries, x.2.slot = k → x.1 = r.id) →
      exec (.slotVerified true) s =
        .next (State.drive
          { s with
            store :=
              { s.store with
                phase := .ready
                job := none
                slots := { s.store.slots with credentials := s.store.slots.credentials.put k (.valid r) }
                mirror := s.store.mirror.take (.credential k (some r))
                marks := s.store.marks.filter (fun n => n != r.id)
                duplicates := s.store.duplicates.erase k }
            roster :=
              match s.store.mirror.credentials.find? r.id with
              | some old =>
                if old.record.kind = r.record.kind ∧ old.record.tenancy = r.record.tenancy then s.roster
                else s.roster.map (fun e => if e.id = r.id then { e with tenancy := r.record.tenancy } else e)
              | none => s.roster
            office := { s.office with busy := false, reply := some ⟨.ok, []⟩ } }))
    ∧ (∀ (id : Nat) (ws : List SlotWrite), j.task = .writeBack id → j.verified + 1 = j.writes.length →
      s.store.waiting = some ws →
      ∃ t, exec (.slotVerified true) s = .next t ∧ t.store.phase = .programming ∧ t.store.waiting = none
        ∧ t.store.job = some { task := .request, writes := ws, verified := 0, retry := false }
        ∧ t.store.mirror = s.store.mirror ∧ t.office = s.office))
    ∧ ∀ m : Mirror,
        (∀ (n k : Nat) (r : UnitRec),
          (m.take (.unit n r)).units.find? k = if k = n then some r else m.units.find? k)
        ∧ (∀ (n k : Nat) (r : Option TenancyRec),
          (m.take (.tenancy n r)).tenancies.find? k = if k = n then r else m.tenancies.find? k)
        ∧ (∀ (n k : Nat) (r : ProfileRec),
          (m.take (.profile n r)).profiles.find? k = if k = n then some r else m.profiles.find? k)
        ∧ (∀ days : List Nat, (m.take (.holidays days)).holidays = days)
        ∧ (∀ (k id : Nat) (r : CredSlot), (∀ x ∈ m.credentials.entries, x.2.slot = k → x.1 = r.id) →
          (m.take (.credential k (some r))).credentials.find? id =
            if id = r.id then some { slot := k, record := r.record } else m.credentials.find? id)

/-- R20, R84, R97, R99, R106: PUT_PORTAL completes. The mirror holds the new record, and the Portal Controller takes it
up in the same event: a leaf sensor taken away makes the position NOT_SENSED and closes an OPEN, HELD or FORCED portal
with the records due; a leaf sensor fitted makes it UNKNOWN and starts the debounce; a beam taken away or fitted stops or
starts the filter. The schedule is then judged and the effective mode recomputed from fire, hold, new verdict and new
base mode. Where the mode stays, nothing else of the cycle changes. The hold stays, no other portal changes, and the
strike stands at the level that the new polarity gives the leaf state. -/
def Obligations.PortalPutTakenUp : Prop :=
  ∀ (s : State) (p : Fin 16) (r : PortalRec) (retry : Bool), s.running = true → s.store.waiting = none →
    s.store.job = some { task := .request, writes := [.portal p r], verified := 0, retry := retry } →
    ∃ t, exec (.slotVerified true) s = .next t
      ∧ t.store.phase = .ready ∧ t.store.job = none ∧ t.store.mirror.portals = s.store.mirror.portals.set p r
      ∧ t.store.slots = { s.store.slots with portals := s.store.slots.portals.put p.val (.valid r) }
      ∧ t.office.busy = false ∧ t.office.reply = some ⟨.ok, []⟩
      ∧ (∀ q : Fin 16, q ≠ p → t.portals[q] = s.portals[q])
      ∧ t = { s with
          store := t.store, portals := t.portals, roster := t.roster, cars := t.cars, referrals := t.referrals,
          journal := t.journal, office := t.office, field := t.field, outs := t.outs }
      ∧ t.portals[p].hold = s.portals[p].hold
      ∧ t.portals[p].verdict =
          (match r.freeProfile with
           | some f => s.verdict f
           | none => .outWindow)
      ∧ t.portals[p].mode =
          (if s.fire.active = true ∧ r.egress = true then .free
           else match s.portals[p].hold with
             | some m => m
             | none => if t.portals[p].verdict = .inWindow then .free else r.baseMode.mode)
      ∧ t.portals[p].position =
          (if (s.portalRec p).leafSensor = r.leafSensor then s.portals[p].position
           else if r.leafSensor = true then .unknown else .notSensed)
      ∧ t.portals[p].leafDebounce =
          (if (s.portalRec p).leafSensor = r.leafSensor then s.portals[p].leafDebounce
           else if r.leafSensor = true then some (s.clock.tick + 5) else none)
      ∧ t.portals[p].beam =
          (if (s.portalRec p).beam = r.beam then s.portals[p].beam
           else if r.beam = false then .stopped
           else if s.pins.beam[p] = true then .counted else .rearming (s.clock.tick + 12))
      ∧ t.outs.strike[p] =
          (if t.portals[p].leaf = .released ∨ t.portals[p].leaf = .free then releaseLevel r else secureLevel r)
      ∧ (t.portals[p].mode = s.portals[p].mode →
          t.roster = s.roster ∧ t.cars = s.cars ∧ t.referrals = s.referrals
          ∧ ((s.portalRec p).leafSensor = false ∨ r.leafSensor = true ∨ s.portals[p].leaf = .secure
                ∨ s.portals[p].leaf = .released ∨ s.portals[p].leaf = .free →
              t.portals[p] =
                  { s.portals[p] with
                    position := t.portals[p].position, leafDebounce := t.portals[p].leafDebounce,
                    beam := t.portals[p].beam, verdict := t.portals[p].verdict }
                ∧ t.journal = s.journal)
          ∧ ((s.portalRec p).leafSensor = true → r.leafSensor = false →
              (s.portals[p].leaf = .opened ∨ s.portals[p].leaf = .held ∨ s.portals[p].leaf = .forced) →
              t.portals[p].leaf = .secure ∧ t.portals[p].grants = 0 ∧ t.portals[p].passages = 0
                ∧ t.portals[p].moves = [] ∧ t.portals[p].held = none
                ∧ (s.journal.length + 2 ≤ 512 →
                    t.journal = s.journal ++ s.closingRecords p (s.portals[p]) r.beam)))

/-- R17, R81, R91, R131, R143: DROP_CREDENTIAL completes. At the verify of its last slot the record leaves the mirror,
the write-back mark is discarded, and in the same event the Roster loses the entry, every pending-move list the
credential's move, every car the passenger, and every PENDING referral of the credential is resolved as CANCELLED with
OUTCOME_READY; the leaf states, grant counts and timers of the portals stay. The Office Port holds OK and is free. The
records are one ROSTER_DROPPED with a count of 1 where there was an entry, then one REFERRAL_OUTCOME for each
cancellation in list order. (that the ROSTER_DROPPED record is first is the model's choice: log entry 32) -/
def Obligations.CredentialDropHandedOver : Prop :=
  ∀ (s : State) (id : Nat) (e : CredEntry) (ds : List Nat) (j : Job), s.running = true → s.store.waiting = none →
    s.store.job = some j → j.task = .request →
    j.writes = .credential e.slot none :: ds.map (fun d => .credential d none) → j.verified = ds.length →
    s.store.mirror.credentials.wf = true → s.store.mirror.credentials.find? id = some e →
    (∀ x ∈ s.store.mirror.credentials.entries, x.2.slot ∈ e.slot :: ds → x.1 = id) → QueueLaw s →
    ∃ t, exec (.slotVerified true) s = .next t
      ∧ (∀ k : Nat,
          t.store.mirror.credentials.find? k = if k = id then none else s.store.mirror.credentials.find? k)
      ∧ t.store.phase = .ready ∧ t.store.job = none ∧ t.store.marks = s.store.marks.filter (fun n => n != id)
      ∧ (∀ w : SlotWrite, j.writes[j.verified]? = some w → t.store.slots = s.store.slots.program true w)
      ∧ t.office.busy = false ∧ t.office.reply = some ⟨.ok, []⟩
      ∧ t.roster = s.roster.filter (fun x => x.id != id)
      ∧ (∀ p : Fin 16,
          t.portals[p] = { s.portals[p] with moves := s.portals[p].moves.filter (fun m => m.id != id) })
      ∧ (∀ c : Fin 4,
          t.cars[c].passengers = s.cars[c].passengers.filter (fun q => q.id != id)
            ∧ (t.cars[c].passengers = [] → t.cars[c].session = .closed ∧ t.cars[c].timer = none)
            ∧ (t.cars[c].passengers ≠ [] →
                t.cars[c].session = s.cars[c].session ∧ t.cars[c].timer = s.cars[c].timer)
            ∧ t.cars[c].landing = s.cars[c].landing)
      ∧ t.referrals =
          s.referrals.map (fun x => if x.state = .pending ∧ x.id = id then { x with state := .resolved .cancelled } else x)
      ∧ ((∃ x ∈ s.referrals, x.state = .pending ∧ x.id = id) → t.field.flags = s.field.flags ||| 0x1000)
      ∧ ((∀ x ∈ s.referrals, x.state = .pending → x.id ≠ id) → t.field = s.field)
      ∧ (s.journal.length + 1 + s.referrals.length ≤ 512 →
          t.journal = s.journal
            ++ (if s.entryOf id = none then []
                else [{ s.blankRecord .rosterDropped with id := some id, count := some 1 }])
            ++ (s.referrals.filter (fun x => x.state == .pending && x.id == id)).map (fun x =>
                { s.blankRecord .referralOutcome with
                  subject := some x.reader, id := some id, outcome := some (.entry .cancelled),
                  ticket := some x.ticket }))
      ∧ t = { s with
          store := t.store, roster := t.roster, portals := t.portals, cars := t.cars, referrals := t.referrals,
          journal := t.journal, office := t.office, field := t.field, outs := t.outs }

/-- R11, R23, R24, R26: failed verifies. A first failed verify leaves the failing slot as the attempt left it (INVALID:
log entry 17) and tries again. A second one is a store fault: every slot that the request had written, the failing one
among them, is loaded into the mirror as restore would load it, and reconciliation runs over the whole mirror; every
credential that was present and is now absent is gone from the roster, the pending moves, the cars, the PENDING
referrals and the write-back list; the Office Port holds STORE_FAULT and is free, the STORE_FAULT flag is raised, and
the last record says how many slots had verified (its place: log entry 19). A slot that reads EMPTY or INVALID loads as
absent, or as the default. Reconciliation makes a unit VACANT whose tenancy is absent or does not list it, and drops from
a tenancy every unit that does not name it, CLOSED where none is left. A write-back that fails twice keeps the mirror,
loses its mark, and leaves the Office Port's reply. -/
def Obligations.StoreFaultStops : Prop :=
  (∀ (s : State) (j : Job) (w : SlotWrite), s.running = true → s.store.job = some j → j.retry = false →
      j.writes[j.verified]? = some w →
      exec (.slotVerified false) s =
        .next (State.drive
          { s with store := { s.store.program false w with job := some { j with retry := true } } }))
    ∧ (∀ (s : State) (j : Job) (w : SlotWrite) (m : Mirror), s.running = true → s.store.job = some j → j.retry = true →
        j.task = .request → j.writes[j.verified]? = some w →
        m = ((j.writes.take (j.verified + 1)).foldl
              (reloadSlot (s.store.slots.program false w)) s.store.mirror).reconcile →
        ∃ t, exec (.slotVerified false) s = .next t
          ∧ t.store.slots = s.store.slots.program false w
          ∧ (s.store.waiting = none → t.store.phase = .ready ∧ t.store.job = none)
          ∧ t.office.reply = some ⟨.storeFault, []⟩ ∧ t.office.busy = false ∧ t.office.flags.getLsbD 9 = true
          ∧ (∃ r : Record, t.journal.getLast? = some r ∧ r.kind = .storeFault ∧ r.count = some j.verified ∧ r.id = none)
          ∧ t.clock = s.clock ∧ t.power = s.power ∧ t.pins = s.pins ∧ t.field.reply = s.field.reply
          ∧ t.store.mirror = { m with credentials := t.store.mirror.credentials }
          ∧ (m.portals = s.store.mirror.portals → t.store.mirror = m)
          ∧ ∀ id : Nat, (s.store.mirror.credentials.find? id).isSome = true → m.credentials.find? id = none →
              t.entryOf id = none ∧ (∀ (p : Fin 16), ∀ x ∈ t.portals[p].moves, x.id ≠ id)
                ∧ (∀ (c : Fin 4), ∀ x ∈ t.cars[c].passengers, x.id ≠ id)
                ∧ (∀ x ∈ t.referrals, x.id = id → x.state ≠ .pending) ∧ id ∉ t.store.marks)
    ∧ (∀ (s : State) (j : Job) (w : SlotWrite) (id : Nat), s.running = true → s.store.job = some j → j.retry = true →
        j.task = .writeBack id → j.writes[j.verified]? = some w →
        ∃ t, exec (.slotVerified false) s = .next t
          ∧ t.store.mirror = s.store.mirror ∧ t.store.marks = s.store.marks.filter (fun n => n != id)
          ∧ t.office.reply = s.office.reply ∧ t.office.busy = s.office.busy ∧ t.office.flags.getLsbD 9 = true
          ∧ t.journal.getLast? = some { s.blankRecord .storeFault with id := some id, count := some 0 }
          ∧ t = { s with store := t.store, journal := t.journal, office := t.office, outs := t.outs })
    ∧ ∀ (slots : Slots) (m : Mirror),
        (∀ (n k : Nat) (r : UnitRec),
          (reloadSlot slots m (.unit n r)).units.find? k =
            if k = n then
              match slots.units.find? n with
              | some (.valid x) => some x
              | _ => none
            else m.units.find? k)
        ∧ (∀ (n k : Nat) (r : Option TenancyRec),
          (reloadSlot slots m (.tenancy n r)).tenancies.find? k =
            if k = n then
              match slots.tenancies.find? n with
              | some (.valid x) => some x
              | _ => none
            else m.tenancies.find? k)
        ∧ (∀ (p : Fin 16) (r : PortalRec),
          (reloadSlot slots m (.portal p r)).portals =
            m.portals.set p
              (match slots.portals.find? p.val with
               | some (.valid x) => x
               | _ => PortalRec.initial))
        ∧ (∀ n : Nat,
          m.reconcile.units.find? n =
            (m.units.find? n).map (fun u =>
              match u.tenancy with
              | none => u
              | some k =>
                match m.tenancies.find? k with
                | some x => if n ∈ x.units then u else { u with state := .vacant, tenancy := none }
                | none => { u with state := .vacant, tenancy := none }))
        ∧ ∀ (n : Nat) (x : TenancyRec), m.tenancies.find? n = some x →
            ∃ y, m.reconcile.tenancies.find? n = some y
              ∧ (∀ u : Nat, u ∈ y.units ↔
                  u ∈ x.units ∧ ∃ v, m.reconcile.units.find? u = some v ∧ v.tenancy = some n)
              ∧ y.profile = x.profile
              ∧ y.state = (if y.units = [] ∧ x.units ≠ [] then .closed else x.state)

/-- R23: a budget write-back programs the slot of the oldest marked credential with the record of the mirror; while
STORE_WP is asserted the marks wait. Its verify takes the mark away and leaves the Store READY. (what a write-back
programs and when its mark leaves: log entry 18; that it begins at this command: log entry 31) -/
def Obligations.BudgetWriteBackRuns : Prop :=
  ∀ (s : State) (id : Nat) (rest : List Nat) (e : CredEntry), s.running = true → s.store.marks = id :: rest →
    s.store.mirror.credentials.find? id = some e →
    (s.store.phase = .ready → s.pins.straps.storeWp = false →
      exec .budgetWriteBack s =
        .next (State.drive
          { s with
            store :=
              { s.store with
                phase := .programming
                job :=
                  some
                    { task := .writeBack id, writes := [.credential e.slot (some { id := id, record := e.record })],
                      verified := 0, retry := false } } }))
    ∧ (s.pins.straps.storeWp = true → exec .budgetWriteBack s = .next s.drive)
    ∧ (s.store.waiting = none →
        s.store.job =
          some { task := .writeBack id, writes := [.credential e.slot (some { id := id, record := e.record })],
                 verified := 0, retry := false } →
        ∃ t, exec (.slotVerified true) s = .next t ∧ t.store.phase = .ready ∧ t.store.job = none
          ∧ id ∉ t.store.marks ∧ t.store.mirror = s.store.mirror ∧ t.office = s.office ∧ t.journal = s.journal)

/-! ## The access decision -/

/-- R41, R48 to R50: a reader outside 0 to 35, or an id of 0 or 0xFFFFFFFF, is refused with BAD_VALUE and reaches no
decision. A presentation at a reader of a portal that is not enabled is denied with PORTAL_DISABLED; at an enabled one
whose reader has no PENDING entry, a FREE mode answers FREE and a LOCKED mode denies with PORTAL_LOCKED, for any
credential id, known or not, and in a NORMAL or REFERRAL mode an unknown id is denied with UNKNOWN. Nothing but the
journal and the reply is written. -/
def Obligations.ReaderAndModeDecide : Prop :=
  (∀ (s : State) (reader id : Nat), s.acknowledges .field = true → (35 < reader ∨ id = 0 ∨ 4294967294 < id) →
     exec (.present reader id) s = .next (State.drive { s with field := s.field.answered ⟨.badValue, []⟩ }))
    ∧ ∀ (s : State) (p : Fin 16) (reader id : Nat), s.acknowledges .field = true → 1 ≤ id → id ≤ 4294967294 →
        (reader = 2 * p.val ∨ reader = 2 * p.val + 1) →
        ((s.portalRec p).enabled = false →
          exec (.present reader id) s =
            .next (State.drive ((s.append
              { s.blankRecord .decision with
                subject := some reader, id := some id, outcome := some (.decision .deny), reason := some .portalDisabled }).modPort
              .field (fun q => q.answered ⟨.ok, [3, 16, 0, 0, 0]⟩))))
        ∧ ((s.portalRec p).enabled = true → (∀ e ∈ s.referrals, e.state = .pending → e.reader ≠ reader) →
          (s.portals[p].mode = .free →
            exec (.present reader id) s =
              .next (State.drive ((s.append
                { s.blankRecord .decision with
                  subject := some reader, id := some id, outcome := some (.decision .free), reason := some .none }).modPort
                .field (fun q => q.answered ⟨.ok, [2, 0, 0, 0, 0]⟩))))
          ∧ (s.portals[p].mode = .locked →
            exec (.present reader id) s =
              .next (State.drive ((s.append
                { s.blankRecord .decision with
                  subject := some reader, id := some id, outcome := some (.decision .deny),
                  reason := some .portalLocked }).modPort
                .field (fun q => q.answered ⟨.ok, [3, 18, 0, 0, 0]⟩))))
          ∧ (s.portals[p].mode = .normal ∨ s.portals[p].mode = .referral → s.store.mirror.credentials.find? id = none →
            exec (.present reader id) s =
              .next (State.drive ((s.append
                { s.blankRecord .decision with
                  subject := some reader, id := some id, outcome := some (.decision .deny), reason := some .unknown }).modPort
                .field (fun q => q.answered ⟨.ok, [3, 19, 0, 0, 0]⟩)))))

/-- R45 to R55: a VALID staff credential whose staff profile is IN and whose zone set holds the inner zone, with no
commitment, at an enabled NORMAL portal with no passback rule and no interlock group and with room in its cycle, on a
site below its limit, passes every check of the entry sequence, and its move runs from its roster zone to the inner
zone. -/
def Obligations.StaffEntryPasses : Prop :=
  ∀ (s : State) (p : Fin 16) (id profile : Nat) (r : CredRec) (zones : Set16),
    (s.portalRec p).enabled = true → (∀ e ∈ s.referrals, e.state = .pending → e.reader ≠ 2 * p.val) →
    s.portals[p].mode = .normal → s.credRec id = some r → r.kind = .staff → r.status = .valid →
    r.staffProfile = some profile → s.verdict profile = .inWindow →
    r.staffZones = some zones → zones.getLsbD (s.portalRec p).inner = true →
    (∀ q : Fin 16, ∀ m ∈ s.portals[q].moves, m.id ≠ id) →
    (∀ c : Fin 4, ∀ x ∈ s.cars[c].passengers, x.id ≠ id) → (s.portalRec p).passback = .none →
    (s.portalRec p).group = none → s.portals[p].grants < 15 → s.portals[p].leaf ≠ .forced →
    s.roster.length + s.pendingArrivals < s.store.mirror.siteLimit →
    s.entryChecks p id none =
        .pass { id := id, fromZone := s.rosterZone id, toZone := (s.portalRec p).inner,
                arrival := s.rosterZone id == 0, ticket := none } false
      ∧ s.referralOf p id = none

/-- R57, R86, R87: a presentation at an entry reader that passes every check and is not referred grants its move. From
SECURE the portal is RELEASED with one grant and the one move, from RELEASED it gains both, its timer preset to the
full unlock period, and its strike stands at release level; in OPEN or HELD the grant is counted and the move commits
at once. No other portal changes. -/
def Obligations.EntryGrantActs : Prop :=
  ∀ (s : State) (p : Fin 16) (id : Nat) (m : Move) (corrected : Bool), s.acknowledges .field = true → 1 ≤ id →
    id ≤ 4294967294 → s.entryChecks p id none = .pass m corrected → s.referralOf p id = none →
    ∃ t, exec (.present (2 * p.val) id) s = .next t
      ∧ t = { s with
          portals := t.portals, roster := t.roster, cars := t.cars, store := t.store, journal := t.journal,
          office := t.office, field := t.field, outs := t.outs }
      ∧ t.field = s.field.answered ⟨.ok, [1, if corrected then 1 else 0, 0, 0, 0]⟩
      ∧ (∀ q : Fin 16, q ≠ p → t.portals[q] = s.portals[q])
      ∧ (s.portals[p].leaf = .secure →
          t.portals[p] =
            { s.portals[p] with
              leaf := .released, grants := 1, passages := 0, tailgate := true, moves := [m],
              unlock := some (s.clock.tick + s.unlockPeriod p) }
          ∧ t.roster = s.roster ∧ t.cars = s.cars ∧ t.store = s.store
          ∧ t.outs.strike[p] = releaseLevel (s.portalRec p))
      ∧ (s.portals[p].leaf = .released →
          t.portals[p] =
            { s.portals[p] with
              grants := s.portals[p].grants + 1, moves := s.portals[p].moves ++ [m],
              unlock := some (s.clock.tick + s.unlockPeriod p) }
          ∧ t.roster = s.roster ∧ t.cars = s.cars ∧ t.store = s.store
          ∧ t.outs.strike[p] = releaseLevel (s.portalRec p))
      ∧ (s.portals[p].leaf = .opened ∨ s.portals[p].leaf = .held →
          t.portals[p] = { s.portals[p] with grants := s.portals[p].grants + 1 }
          ∧ t.roster = (s.commit m).roster ∧ t.cars = (s.commit m).cars ∧ t.store = (s.commit m).store)

/-- R52, R58, R64, R86: exit readers and regrants. At the exit reader of an enabled NORMAL or REFERRAL portal with no
PENDING entry, any known credential, whatever its status, its tenancy, its window or its zones, that is no passenger and
has no move elsewhere: with a move at this portal it is regranted; without one it is denied with PASSBACK where the rule
is HARD, it has no muster mark and its roster zone is not the inner zone, and otherwise, with room in the cycle and no
busy group, it passes, corrected where SOFT or a mustered HARD finds a mismatch. The exit grant's move runs from the
inner zone to the outer zone and is no arrival; the portal takes it as it takes an entry grant. A regrant at either
reader presets the unlock timer and changes nothing else of the portal. Each has its DECISION record. -/
def Obligations.ExitsAndRegrants : Prop :=
  (∀ (s : State) (p : Fin 16) (id : Nat) (r : CredRec) (m : Move),
    (s.portalRec p).enabled = true → (∀ e ∈ s.referrals, e.state = .pending → e.reader ≠ 2 * p.val + 1) →
    (s.portals[p].mode = .normal ∨ s.portals[p].mode = .referral) → s.credRec id = some r →
    (∀ q : Fin 16, q ≠ p → ∀ x ∈ s.portals[q].moves, x.id ≠ id) →
    (∀ c : Fin 4, ∀ x ∈ s.cars[c].passengers, x.id ≠ id) →
    m = { id := id, fromZone := (s.portalRec p).inner, toZone := (s.portalRec p).outer, arrival := false,
          ticket := none } →
    ((∃ x ∈ s.portals[p].moves, x.id = id) → s.exitChecks p id = .regrant)
    ∧ ((∀ x ∈ s.portals[p].moves, x.id ≠ id) →
        ((s.portalRec p).passback = .hard → s.mustered id = false → s.rosterZone id ≠ (s.portalRec p).inner →
          s.exitChecks p id = .deny .passback)
        ∧ (s.portals[p].grants < 15 → s.portals[p].leaf ≠ .forced → s.busyFor p = none →
          ((s.portalRec p).passback = .none ∨ s.rosterZone id = (s.portalRec p).inner →
            s.exitChecks p id = .pass m false)
          ∧ ((s.portalRec p).passback = .soft ∨ ((s.portalRec p).passback = .hard ∧ s.mustered id = true) →
            s.rosterZone id ≠ (s.portalRec p).inner → s.exitChecks p id = .pass m true))))
    ∧ (∀ (s : State) (p : Fin 16) (id : Nat) (m : Move) (corrected : Bool), s.acknowledges .field = true → 1 ≤ id →
      id ≤ 4294967294 → s.exitChecks p id = .pass m corrected →
      ∃ t, exec (.present (2 * p.val + 1) id) s = .next t
        ∧ m = { id := id, fromZone := (s.portalRec p).inner, toZone := (s.portalRec p).outer, arrival := false,
                ticket := none }
        ∧ t = { s with
            portals := t.portals, roster := t.roster, cars := t.cars, store := t.store, journal := t.journal,
            office := t.office, field := t.field, outs := t.outs }
        ∧ t.field = s.field.answered ⟨.ok, [1, if corrected then 1 else 0, 0, 0, 0]⟩
        ∧ t.journal.getLast? =
            some { s.blankRecord .decision with
              subject := some (2 * p.val + 1), id := some id, outcome := some (.decision .grant),
              reason := some (if corrected then .passbackCorrected else .none)
              count := some (if s.portals[p].leaf = .secure then 1 else s.portals[p].grants + 1) }
        ∧ (∀ q : Fin 16, q ≠ p → t.portals[q] = s.portals[q])
        ∧ (s.portals[p].leaf = .secure →
            t.portals[p] =
              { s.portals[p] with
                leaf := .released, grants := 1, passages := 0, tailgate := true, moves := [m],
                unlock := some (s.clock.tick + s.unlockPeriod p) }
            ∧ t.roster = s.roster ∧ t.cars = s.cars ∧ t.store = s.store
            ∧ t.outs.strike[p] = releaseLevel (s.portalRec p))
        ∧ (s.portals[p].leaf = .released →
            t.portals[p] =
              { s.portals[p] with
                grants := s.portals[p].grants + 1, moves := s.portals[p].moves ++ [m],
                unlock := some (s.clock.tick + s.unlockPeriod p) }
            ∧ t.roster = s.roster ∧ t.cars = s.cars ∧ t.store = s.store)
        ∧ (s.portals[p].leaf = .opened ∨ s.portals[p].leaf = .held →
            t.portals[p] = { s.portals[p] with grants := s.portals[p].grants + 1 }
            ∧ t.roster = (s.commit m).roster ∧ t.cars = (s.commit m).cars ∧ t.store = (s.commit m).store))
    ∧ ∀ (s : State) (p : Fin 16) (reader id : Nat), s.acknowledges .field = true → 1 ≤ id → id ≤ 4294967294 →
        (reader = 2 * p.val ∧ s.entryChecks p id none = .regrant
          ∨ reader = 2 * p.val + 1 ∧ s.exitChecks p id = .regrant) →
        s.portals[p].leaf = .released →
        ∃ t, exec (.present reader id) s = .next t
          ∧ t.portals[p] = { s.portals[p] with unlock := some (s.clock.tick + s.unlockPeriod p) }
          ∧ (∀ q : Fin 16, q ≠ p → t.portals[q] = s.portals[q])
          ∧ t.field = s.field.answered ⟨.ok, [1, 0, 0, 0, 0]⟩
          ∧ t.journal.getLast? =
              some { s.blankRecord .decision with
                subject := some reader, id := some id, outcome := some (.decision .grant), reason := some .none,
                count := some s.portals[p].grants }
          ∧ t = { s with
              portals := t.portals, journal := t.journal, office := t.office, field := t.field, outs := t.outs }

/-- R56, R136, R137: a presentation that step 13 refers, with a free place, creates a PENDING entry at the end of the
queue with the next ticket and a deadline of the portal's timeout, and writes into no portal. -/
def Obligations.ReferralCreated : Prop :=
  ∀ (s : State) (p : Fin 16) (id tenancy : Nat) (m : Move) (corrected : Bool) (reason : Reason),
    s.acknowledges .field = true → 1 ≤ id → id ≤ 4294967294 → s.entryChecks p id none = .pass m corrected →
    s.referralOf p id = some (tenancy, reason) → s.referrals.length < 8 →
    ∃ t, exec (.present (2 * p.val) id) s = .next t
      ∧ t.referrals = s.referrals ++
          [{ ticket := s.nextTicket, reader := 2 * p.val, id := id, tenancy := tenancy, reason := reason,
             state := .pending, deadline := s.clock.tick + (s.portalRec p).timeout * 100 }]
      ∧ t.ticketCounter = (if s.nextTicket < 255 then s.nextTicket + 1 else 1)
      ∧ t = { s with
          referrals := t.referrals, ticketCounter := t.ticketCounter, journal := t.journal, office := t.office,
          field := t.field, outs := t.outs }
      ∧ t.office.flags.getLsbD 0 = true
      ∧ t.field.reply = some ⟨.ok, [4, BitVec.ofNat 8 reason.code, BitVec.ofNat 8 s.nextTicket, 0, 0]⟩

/-- R61, R62, R70, R71, R126, R129: a car presentation whose checks pass. A holder with a roster entry that is no
passenger of a car with room joins the passengers at the end, opens the session with the full window, and has its entry
marked with the car. A passenger of the car is regranted: its landing set is replaced in its place, the session timer
restarts, and its entry stays. A holder with no entry first gains one at the end of the roster, at the current landing's
zone or the home landing's while it is unknown, spending one unit of a present budget, and is then the last passenger;
in a full car it is denied with BUSY and the entry stands. -/
def Obligations.CarRideGranted : Prop :=
  ∀ (s : State) (c : Fin 4) (id : Nat) (landings : Set16) (corrected : Bool), s.acknowledges .field = true → 1 ≤ id →
    id ≤ 4294967294 → s.carChecks c id = .pass landings corrected →
    ((s.entryOf id).isSome = true → s.cars[c].passengers.length < 8 → (∀ x ∈ s.cars[c].passengers, x.id ≠ id) →
      ∃ t, exec (.present (32 + c.val) id) s = .next t
        ∧ t.cars[c] =
            { s.cars[c] with
              passengers := s.cars[c].passengers ++ [{ id := id, landings := landings }], session := .opened,
              timer := some (s.clock.tick + (s.carRec c).window * 100) }
        ∧ t.roster = s.roster.map (fun e => if e.id = id then { e with car := some c } else e)
        ∧ (∀ d : Fin 4, d ≠ c → t.cars[d] = s.cars[d])
        ∧ t = { s with
            cars := t.cars, roster := t.roster, journal := t.journal, office := t.office, field := t.field,
            outs := t.outs }
        ∧ t.field.reply = some ⟨.ok, [1, if corrected then 1 else 0, 0] ++ byte2 landings.toNat⟩)
    ∧ ((s.entryOf id).isSome = true → (∃ x ∈ s.cars[c].passengers, x.id = id) →
      ∃ t, exec (.present (32 + c.val) id) s = .next t
        ∧ t.cars[c] =
            { s.cars[c] with
              passengers :=
                s.cars[c].passengers.map (fun x => if x.id = id then { x with landings := landings } else x)
              session := .opened
              timer := some (s.clock.tick + (s.carRec c).window * 100) }
        ∧ (∀ d : Fin 4, d ≠ c → t.cars[d] = s.cars[d])
        ∧ t = { s with cars := t.cars, journal := t.journal, office := t.office, field := t.field, outs := t.outs }
        ∧ t.journal.getLast? =
            some { s.blankRecord .decision with
              subject := some (32 + c.val), id := some id, outcome := some (.decision .grant),
              reason := some (if corrected then .passbackCorrected else .none),
              count := some s.cars[c].passengers.length }
        ∧ t.field.reply = some ⟨.ok, [1, if corrected then 1 else 0, 0] ++ byte2 landings.toNat⟩)
    ∧ ∀ joined : RosterEntry, s.entryOf id = none → (∀ x ∈ s.cars[c].passengers, x.id ≠ id) →
      joined =
        { id := id, tenancy := s.credTenancy id,
          zone := (s.carRec c).zones.getD (s.cars[c].landing.getD (s.carRec c).home) 0,
          day := s.clock.day, minute := s.clock.minute, counter := 0, overstay := false, muster := false, car := none } →
      (s.cars[c].passengers.length < 8 →
        ∃ t, exec (.present (32 + c.val) id) s = .next t
          ∧ t.roster = s.roster ++ [{ joined with car := some c }]
          ∧ t.store = (s.createEntry id joined.zone).store
          ∧ t.cars[c] =
              { s.cars[c] with
                passengers := s.cars[c].passengers ++ [{ id := id, landings := landings }], session := .opened,
                timer := some (s.clock.tick + (s.carRec c).window * 100) }
          ∧ (∀ d : Fin 4, d ≠ c → t.cars[d] = s.cars[d])
          ∧ t = { s with
              cars := t.cars, roster := t.roster, store := t.store, journal := t.journal, office := t.office,
              field := t.field, outs := t.outs }
          ∧ t.field.reply = some ⟨.ok, [1, if corrected then 1 else 0, 0] ++ byte2 landings.toNat⟩)
      ∧ (8 ≤ s.cars[c].passengers.length →
        ∃ t, exec (.present (32 + c.val) id) s = .next t
          ∧ t.roster = s.roster ++ [joined] ∧ t.store = (s.createEntry id joined.zone).store
          ∧ t = { s with
              roster := t.roster, store := t.store, journal := t.journal, office := t.office, field := t.field,
              outs := t.outs }
          ∧ t.field.reply = some ⟨.ok, [3, 17, 0, 0, 0]⟩)

/-! ## Referrals -/

/-- R144, R145: WITHDRAW removes a PENDING entry with its WITHDRAWN record, and TAKE_OUTCOME removes a RESOLVED one
and reports it; a PENDING entry is refused to TAKE_OUTCOME with NOT_FOUND, an unknown ticket with UNKNOWN_TICKET.
(absent items of a reply: log entry 21) -/
def Obligations.EntriesLeave : Prop :=
  ∀ (s : State) (ticket : Nat), s.acknowledges .field = true → ticket ≠ 0 →
    (∀ e : Referral, s.referral? ticket = some e → e.state = .pending →
      exec (.withdraw ticket) s =
        .next (State.drive
          ((State.append { s with referrals := s.referrals.filter (fun x => x.ticket != ticket) }
            { s.blankRecord .referralOutcome with
              subject := some e.reader, id := some e.id, outcome := some .withdrawn, ticket := some e.ticket }).modPort
            .field (fun q => q.answered ⟨.ok, byte1 ticket ++ [23, 0xFF, 0xFF]⟩)))
      ∧ exec (.takeOutcome ticket) s = .next (State.drive { s with field := s.field.answered ⟨.notFound, []⟩ }))
    ∧ (∀ (e : Referral) (o : EntryOutcome), s.referral? ticket = some e → e.state = .resolved o →
      ∃ t, exec (.takeOutcome ticket) s = .next t
        ∧ t = { s with
            referrals := s.referrals.filter (fun x => x.ticket != ticket), field := t.field, outs := t.outs }
        ∧ t.field = s.field.answered
            ⟨.ok, byte1 ticket ++ byte1 e.reader ++ byte4 e.id ++ byte1 o.code
              ++ byte1 (match o with | .superseded r => r.code | _ => 0)
              ++ byte1 (match o with | .granted n => n | _ => 0)
              ++ byte1 (t.referrals.filter (fun x => x.state != .pending)).length⟩)
    ∧ (s.referral? ticket = none →
      exec (.takeOutcome ticket) s = .next (State.drive { s with field := s.field.answered ⟨.unknownTicket, []⟩ })
      ∧ exec (.withdraw ticket) s = .next (State.drive { s with field := s.field.answered ⟨.unknownTicket, []⟩ }))

/-- R138, R139, R141: the office's DENY of a PENDING entry resolves it as DENIED with its record and OUTCOME_READY, and
the answer to a RESOLVED entry is refused with LATE. At its deadline a PENDING entry whose portal's fallback is DENY is
resolved as TIMED_OUT, and no portal is touched; where the fallback is GRANT it is re-checked as at an approval: a failed
check supersedes it with its reason and writes into no portal; passed checks grant its move at the SECURE portal, with
the entry's ticket, and the entry is GRANTED with the portal's grant count. (absent items of a reply: log entry 21) -/
def Obligations.AnswersAndDeadlinesResolve : Prop :=
  (∀ (s : State) (ticket id : Nat) (e : Referral), s.acknowledges .office = true → ticket ≠ 0 → 1 ≤ id →
    id ≤ 4294967294 → s.referrals.find? (fun x => x.ticket == ticket && x.id == id) = some e →
    (e.state = .pending →
      ∃ t, exec (.answerReferral ticket id 1) s = .next t
        ∧ t.referrals =
            s.referrals.map (fun x => if x.ticket = ticket then { x with state := .resolved .denied } else x)
        ∧ t.field.flags = s.field.flags ||| 0x1000
        ∧ t.journal.getLast? =
            some { s.blankRecord .referralOutcome with
              subject := some e.reader, id := some id, outcome := some (.entry .denied), ticket := some ticket }
        ∧ t.office.reply = some ⟨.ok, byte1 ticket ++ [18, 0xFF, 0xFF]⟩
        ∧ t = { s with referrals := t.referrals, journal := t.journal, office := t.office, field := t.field,
                       outs := t.outs })
    ∧ (e.state ≠ .pending →
      ∀ verdict : Nat, verdict ≤ 1 → exec (.answerReferral ticket id verdict) s =
        .next (State.drive { s with office := s.office.answered ⟨.late, []⟩ })))
    ∧ ∀ (s : State) (p : Fin 16) (ticket : Nat) (e : Referral), s.running = true → s.referral? ticket = some e →
        e.state = .pending → e.deadline = s.clock.tick → e.reader = 2 * p.val →
        ((s.portalRec p).fallback = .deny →
          ∃ t, exec (.referralDeadline ticket) s = .next t
            ∧ t.referrals =
                s.referrals.map (fun x => if x.ticket = ticket then { x with state := .resolved .timedOut } else x)
            ∧ t.field.flags = s.field.flags ||| 0x1000
            ∧ t.journal.getLast? =
                some { s.blankRecord .referralOutcome with
                  subject := some e.reader, id := some e.id, outcome := some (.entry .timedOut), ticket := some ticket }
            ∧ t = { s with referrals := t.referrals, journal := t.journal, office := t.office, field := t.field,
                           outs := t.outs })
        ∧ (∀ r : Reason, (s.portalRec p).fallback = .grant → s.entryChecks p e.id (some ticket) = .deny r →
          ∃ t, exec (.referralDeadline ticket) s = .next t
            ∧ t.referrals =
                s.referrals.map
                  (fun x => if x.ticket = ticket then { x with state := .resolved (.superseded r) } else x)
            ∧ t.field.flags = s.field.flags ||| 0x1000
            ∧ t.journal.getLast? =
                some { s.blankRecord .referralOutcome with
                  subject := some e.reader, id := some e.id, outcome := some (.entry (.superseded r)), reason := some r,
                  ticket := some ticket }
            ∧ t = { s with referrals := t.referrals, journal := t.journal, office := t.office, field := t.field,
                           outs := t.outs })
        ∧ (∀ (m : Move) (corrected : Bool), (s.portalRec p).fallback = .grant →
          s.entryChecks p e.id (some ticket) = .pass m corrected → s.portals[p].leaf = .secure →
          ∃ t, exec (.referralDeadline ticket) s = .next t
            ∧ m.ticket = some ticket
            ∧ t.portals[p] =
                { s.portals[p] with
                  leaf := .released, grants := 1, passages := 0, tailgate := true, moves := [m],
                  unlock := some (s.clock.tick + s.unlockPeriod p) }
            ∧ (∀ q : Fin 16, q ≠ p → t.portals[q] = s.portals[q])
            ∧ t.referrals =
                s.referrals.map (fun x => if x.ticket = ticket then { x with state := .resolved (.granted 1) } else x)
            ∧ t.field.flags = s.field.flags ||| 0x1000
            ∧ t.journal.getLast? =
                some { s.blankRecord .referralOutcome with
                  subject := some e.reader, id := some e.id, outcome := some (.entry (.granted 1)), count := some 1,
                  ticket := some ticket }
            ∧ t = { s with
                portals := t.portals, referrals := t.referrals, journal := t.journal, office := t.office,
                field := t.field, outs := t.outs })

/-- R63, R140: the office's APPROVE of a PENDING entry re-checks it: a failed check supersedes the entry with its
reason and writes into no portal; passed checks grant its move at the portal, with the entry's ticket, and the entry
is GRANTED with the portal's grant count. (absent items of a reply: log entry 21) -/
def Obligations.ApprovalRechecks : Prop :=
  ∀ (s : State) (p : Fin 16) (ticket id : Nat) (e : Referral), s.acknowledges .office = true → ticket ≠ 0 → 1 ≤ id →
    id ≤ 4294967294 → s.referrals.find? (fun x => x.ticket == ticket && x.id == id) = some e → e.state = .pending →
    e.reader = 2 * p.val →
    (∀ r : Reason, s.entryChecks p id (some ticket) = .deny r →
      ∃ t, exec (.answerReferral ticket id 0) s = .next t
        ∧ t.referrals =
            s.referrals.map
              (fun x => if x.ticket = ticket then { x with state := .resolved (.superseded r) } else x)
        ∧ t = { s with
            referrals := t.referrals, journal := t.journal, office := t.office, field := t.field, outs := t.outs }
        ∧ t.office.reply = some ⟨.ok, byte1 ticket ++ [20, BitVec.ofNat 8 r.code, 0xFF]⟩)
    ∧ (∀ (m : Move) (corrected : Bool), s.entryChecks p id (some ticket) = .pass m corrected →
      s.portals[p].leaf = .secure →
      ∃ t, exec (.answerReferral ticket id 0) s = .next t
        ∧ m.ticket = some ticket
        ∧ t.portals[p] =
            { s.portals[p] with
              leaf := .released, grants := 1, passages := 0, tailgate := true, moves := [m],
              unlock := some (s.clock.tick + s.unlockPeriod p) }
        ∧ t.referrals =
            s.referrals.map (fun x => if x.ticket = ticket then { x with state := .resolved (.granted 1) } else x)
        ∧ (∀ q : Fin 16, q ≠ p → t.portals[q] = s.portals[q])
        ∧ t = { s with
            portals := t.portals, referrals := t.referrals, journal := t.journal, office := t.office, field := t.field,
            outs := t.outs }
        ∧ t.office.reply = some ⟨.ok, byte1 ticket ++ [17, 0xFF, 1]⟩)

/-! ## Roster and cars -/

/-- R23, R67 to R70, R76: one commit. Under a CLEAR fire state an arrival of a holder with no entry adds one at the
end; a move to zone 0 that is no arrival removes the entry; any other move sets the zone and clears the muster mark in
place; a holder with no entry gains none from a move that is no arrival. Under an ACTIVE fire state nothing changes.
Creating an entry spends one unit of a present budget in the mirror, a budget of 0 staying 0, and marks the credential
for write-back once. (that a budget of 0 marks it too: log entry 33) -/
def Obligations.CommitMovesHolder : Prop :=
  (∀ (s : State) (m : Move),
     (s.fire.active = true → s.commit m = s)
     ∧ (s.fire.active = false → s.entryOf m.id = none → m.arrival = false → s.commit m = s)
     ∧ (s.fire.active = false → s.entryOf m.id = none → m.arrival = true →
         (s.commit m).roster = s.roster ++
           [{ id := m.id, tenancy := s.credTenancy m.id, zone := m.toZone, day := s.clock.day, minute := s.clock.minute,
              counter := 0, overstay := false, muster := false, car := none }])
     ∧ (s.fire.active = false → (s.entryOf m.id).isSome = true → m.arrival = false → m.toZone = 0 →
         (s.commit m).roster = s.roster.filter (fun e => e.id != m.id))
     ∧ (s.fire.active = false → (s.entryOf m.id).isSome = true → (m.arrival = true ∨ m.toZone ≠ 0) →
         s.commit m =
           { s with
             roster := s.roster.map (fun e => if e.id = m.id then { e with zone := m.toZone, muster := false } else e) }))
    ∧ ∀ (s : State) (id zone : Nat) (e : CredEntry), s.store.mirror.credentials.find? id = some e →
        (∀ b : Nat, e.record.budget = some b →
          (s.createEntry id zone).store.mirror.credentials.find? id =
              some { e with record := { e.record with budget := some (b - 1) } }
            ∧ (s.createEntry id zone).store.marks =
                (if id ∈ s.store.marks then s.store.marks else s.store.marks ++ [id]))
        ∧ (e.record.budget = none → (s.createEntry id zone).store = s.store)

/-- R79: DROP_ROSTER_ENTRY. An id of 0 or 0xFFFFFFFF is refused with BAD_VALUE, an id with no entry with NOT_FOUND.
Otherwise, in either fire state, the entry leaves the list, the car of its car field loses the passenger, one
ROSTER_DROPPED record carries the id and a count of 0, and no credential, budget, pending move or referral is touched.
A move of the holder that commits later finds no entry: an arrival creates one, any other move changes nothing. -/
def Obligations.DropRosterEntryRemoves : Prop :=
  ∀ (s : State) (id : Nat), s.acknowledges .office = true →
    (id = 0 ∨ 4294967294 < id →
      exec (.dropRosterEntry id) s = .next (State.drive { s with office := s.office.answered ⟨.badValue, []⟩ }))
    ∧ (1 ≤ id → id ≤ 4294967294 → s.entryOf id = none →
      exec (.dropRosterEntry id) s = .next (State.drive { s with office := s.office.answered ⟨.notFound, []⟩ }))
    ∧ (∀ e : RosterEntry, 1 ≤ id → id ≤ 4294967294 → s.entryOf id = some e →
      ∃ t, exec (.dropRosterEntry id) s = .next t
        ∧ t.roster = s.roster.filter (fun x => x.id != id)
        ∧ (e.car = none → t.cars = s.cars)
        ∧ (∀ c : Fin 4, e.car = some c →
            t.cars[c].passengers = s.cars[c].passengers.filter (fun q => q.id != id)
              ∧ ∀ d : Fin 4, d ≠ c → t.cars[d] = s.cars[d])
        ∧ t.journal.getLast? = some { s.blankRecord .rosterDropped with id := some id, count := some 0 }
        ∧ t.office.reply = some ⟨.ok, []⟩
        ∧ t = { s with roster := t.roster, cars := t.cars, journal := t.journal, office := t.office, outs := t.outs }
        ∧ (∀ m : Move, m.id = id → m.arrival = false → t.commit m = t)
        ∧ (∀ m : Move, m.id = id → m.arrival = true → t.fire.active = false →
            ((t.commit m).roster.getLast?.map (·.id)) = some id))

/-- R80: CLEAR_ROSTER empties the roster and every car, and its record and reply count the entries removed; pending
moves stay. -/
def Obligations.ClearRosterEmpties : Prop :=
  ∀ s : State, s.acknowledges .office = true →
    ∃ t, exec .clearRoster s = .next t
      ∧ t.roster = []
      ∧ (∀ c : Fin 4, t.cars[c] = { s.cars[c] with passengers := [], session := .closed, timer := none })
      ∧ t.journal.getLast? = some { s.blankRecord .rosterDropped with count := some s.roster.length }
      ∧ t.office.reply = some ⟨.ok, byte2 s.roster.length⟩
      ∧ t = { s with roster := t.roster, cars := t.cars, journal := t.journal, office := t.office, outs := t.outs }

/-- R123, R124, R127: how passengers leave a car. An arrival below the landing count sets the landing; the passengers
whose sets hold it leave the list and the car, their entries taking the landing's zone while the fire state is CLEAR;
the others stay in order, and the session closes if none is left. Any other landing is refused with BAD_VALUE. A session
that runs out drops every passenger with its zone unchanged, clears their car fields, and closes with one CAR_TIMEOUT
record. -/
def Obligations.PassengersLeave : Prop :=
  (∀ (s : State) (c : Fin 4) (n : Nat), s.acknowledges .field = true →
    (n < (s.carRec c).landings →
      ∃ t, exec (.carArrival c.val n) s = .next t
        ∧ t.cars[c].landing = some n
        ∧ t.cars[c].passengers = s.cars[c].passengers.filter (fun q => !q.landings.getLsbD n)
        ∧ (t.cars[c].passengers = [] → t.cars[c].session = .closed ∧ t.cars[c].timer = none)
        ∧ (t.cars[c].passengers ≠ [] → t.cars[c].session = s.cars[c].session ∧ t.cars[c].timer = s.cars[c].timer)
        ∧ (∀ d : Fin 4, d ≠ c → t.cars[d] = s.cars[d])
        ∧ t.roster = s.roster.map (fun e =>
            if s.cars[c].passengers.any (fun q => q.landings.getLsbD n && q.id == e.id) then
              if s.fire.active = true then { e with car := none }
              else { e with car := none, zone := (s.carRec c).zones.getD n 0, muster := false }
            else e)
        ∧ t = { s with roster := t.roster, cars := t.cars, field := t.field, outs := t.outs })
    ∧ ((s.carRec c).landings ≤ n →
      exec (.carArrival c.val n) s = .next (State.drive { s with field := s.field.answered ⟨.badValue, []⟩ })))
    ∧ ∀ (s : State) (c : Fin 4), s.running = true → s.cars[c].timer = some s.clock.tick →
      ∃ t, exec (.sessionTimerExpiry c) s = .next t
        ∧ t.cars[c] = { s.cars[c] with passengers := [], session := .closed, timer := none }
        ∧ (∀ d : Fin 4, d ≠ c → t.cars[d] = s.cars[d])
        ∧ t.roster = s.roster.map (fun e =>
            if s.cars[c].passengers.any (fun q => q.id == e.id) then { e with car := none } else e)
        ∧ t.journal.getLast? =
            some { s.blankRecord .carTimeout with
              subject := some c.val, count := some s.cars[c].passengers.length }
        ∧ t = { s with roster := t.roster, cars := t.cars, journal := t.journal, office := t.office, outs := t.outs }

/-! ## Portals -/

/-- R85, R96, R97: the lines of a portal. A change of LEAF or EXIT starts the 5-tick debounce where the new level
differs from the recognized position, and cancels it where it agrees; LEAF of a portal without a sensor is not read.
The beam filter moves as its table gives, and a qualifying interruption counts a passage in RELEASED, OPEN, HELD and
FORCED alone, a count of 255 staying. Nothing else changes. -/
def Obligations.LinesAreFiltered : Prop :=
  (∀ (s : State) (p : Fin 16) (level : Bool), s.running = true →
    (s.pins.leaf[p] ≠ level → (s.portalRec p).leafSensor = true →
      exec (.leafLineChange p level) s =
        .next (State.drive
          { s.modPortal p (fun q =>
              { q with
                leafDebounce :=
                  if q.position = (if level then .opened else .closed) then none else some (s.clock.tick + 5) }) with
            pins := { s.pins with leaf := s.pins.leaf.set p level } }))
    ∧ (s.pins.leaf[p] ≠ level → (s.portalRec p).leafSensor = false →
      exec (.leafLineChange p level) s =
        .next (State.drive { s with pins := { s.pins with leaf := s.pins.leaf.set p level } }))
    ∧ (s.pins.exit[p] ≠ level →
      exec (.exitLineChange p level) s =
        .next (State.drive
          { s.modPortal p (fun q =>
              { q with
                exitDebounce :=
                  if q.exit = (if level then .pressed else .released) then none else some (s.clock.tick + 5) }) with
            pins := { s.pins with exit := s.pins.exit.set p level } })))
    ∧ ∀ (s : State) (p : Fin 16), s.running = true →
    (s.pins.beam[p] = false →
      exec (.beamBreak p) s =
        .next (State.drive
          { s.modPortal p (fun q =>
              { q with
                beam :=
                  match q.beam with
                  | .armed => .timing (s.clock.tick + 12)
                  | .rearming _ => .counted
                  | f => f }) with
            pins := { s.pins with beam := s.pins.beam.set p true } }))
    ∧ (s.pins.beam[p] = true →
      exec (.beamClear p) s =
        .next (State.drive
          { s.modPortal p (fun q =>
              { q with
                beam :=
                  match q.beam with
                  | .timing _ => .armed
                  | .counted => .rearming (s.clock.tick + 12)
                  | f => f }) with
            pins := { s.pins with beam := s.pins.beam.set p false } }))
    ∧ (s.portals[p].beam = .timing s.clock.tick → s.portals[p].passages ≤ 255 →
      exec (.qualifyingInterruption p) s =
        .next (s.modPortal p (fun q =>
          { q with
            beam := .counted
            passages :=
              if q.leaf = .secure ∨ q.leaf = .free then q.passages
              else if q.passages = 255 then 255 else q.passages + 1 })).drive)
    ∧ (s.portals[p].beam = .rearming s.clock.tick →
      exec (.beamRearmExpiry p) s = .next (s.modPortal p (fun q => { q with beam := .armed })).drive)

/-- R90, R95: the leaf recognized open. A RELEASED portal becomes OPEN with its strike at secure level, its moves
commit in list order and its held timer starts. A SECURE portal at an initial recognition becomes OPEN with a fresh
cycle and no record; at any other it is FORCED, with its record, its flags and ALARM. A FREE portal notes the position
alone. -/
def Obligations.LeafOpens : Prop :=
  ∀ (s : State) (p : Fin 16), s.leafDue p true = true →
    ∃ t, exec (.leafOpenRecognized p) s = .next t
      ∧ t.portals[p].position = .opened ∧ t.portals[p].leafDebounce = none
      ∧ (∀ q : Fin 16, q ≠ p → t.portals[q] = s.portals[q])
      ∧ t = { s with
          portals := t.portals, roster := t.roster, cars := t.cars, store := t.store, journal := t.journal,
          office := t.office, field := t.field, outs := t.outs }
      ∧ (s.portals[p].leaf ≠ .released → t.roster = s.roster ∧ t.cars = s.cars ∧ t.store = s.store)
      ∧ (s.portals[p].leaf = .released →
          t.portals[p].leaf = .opened ∧ t.portals[p].moves = [] ∧ t.portals[p].unlock = none
            ∧ t.portals[p].grants = s.portals[p].grants ∧ t.portals[p].passages = s.portals[p].passages
            ∧ t.portals[p].held =
                some { start := s.clock.tick,
                       expiry := if (s.portalRec p).heldLimit = 0 then none
                                 else some (s.clock.tick + (s.portalRec p).heldLimit * 100) }
            ∧ t.roster = (s.commitAll s.portals[p].moves).roster
            ∧ t.outs.strike[p] = secureLevel (s.portalRec p) ∧ t.journal = s.journal)
      ∧ (s.portals[p].leaf = .secure → s.portals[p].position = .unknown →
          t.portals[p].leaf = .opened ∧ t.portals[p].grants = 0 ∧ t.portals[p].tailgate = false
            ∧ t.portals[p].held.isSome = true ∧ t.journal = s.journal)
      ∧ (s.portals[p].leaf = .secure → s.portals[p].position ≠ .unknown →
          t.portals[p].leaf = .forced ∧ t.portals[p].held = none ∧ t.outs.alarm = true
            ∧ t.journal.getLast? = some { s.blankRecord .forced with subject := some p.val }
            ∧ t.office.flags.getLsbD 4 = true ∧ t.field.flags.getLsbD 4 = true)
      ∧ (s.portals[p].leaf = .free →
          t.portals[p] = { s.portals[p] with position := .opened, leafDebounce := none } ∧ t.journal = s.journal)

/-- R93, R94: the leaf recognized closed. An OPEN or HELD portal becomes SECURE, its cycle over; a HELD one has a
HELD_CLEARED record of the whole seconds since the held timer's start, saturating at 65,535. Where a beam is fitted, the
cycle is judged and its passages exceed its grants, a TAILGATE record then carries the excess and both ports are flagged;
otherwise nothing more is recorded. A FORCED portal becomes SECURE with its passages in its record; in SECURE, RELEASED
and FREE the position is noted alone. -/
def Obligations.LeafCloses : Prop :=
  ∀ (s : State) (p : Fin 16), s.leafDue p false = true →
    ∃ t, exec (.leafClosedRecognized p) s = .next t
      ∧ t.portals[p].position = .closed ∧ t.portals[p].leafDebounce = none
      ∧ (∀ q : Fin 16, q ≠ p → t.portals[q] = s.portals[q])
      ∧ t = { s with
          portals := t.portals, journal := t.journal, office := t.office, field := t.field, outs := t.outs }
      ∧ (s.portals[p].leaf = .opened ∨ s.portals[p].leaf = .held ∨ s.portals[p].leaf = .forced →
          t.portals[p] =
              { s.portals[p] with
                leaf := .secure, grants := 0, passages := 0, tailgate := false, moves := [], unlock := none,
                held := none, position := .closed, leafDebounce := none }
            ∧ (s.journal.length + 2 ≤ 512 →
                t.journal = s.journal ++ s.closingRecords p s.portals[p] (s.portalRec p).beam))
      ∧ (s.portals[p].leaf = .opened ∨ s.portals[p].leaf = .held →
          (s.portalRec p).beam = true → s.portals[p].tailgate = true → s.portals[p].grants < s.portals[p].passages →
          t.journal.getLast? =
              some { s.blankRecord .tailgate with
                subject := some p.val, count := some (s.portals[p].passages - s.portals[p].grants) }
            ∧ t.office.flags.getLsbD 6 = true ∧ t.field.flags.getLsbD 6 = true)
      ∧ ((s.portalRec p).beam = false ∨ s.portals[p].tailgate = false ∨ s.portals[p].passages ≤ s.portals[p].grants →
          t.field = s.field
          ∧ (s.portals[p].leaf = .opened → t.journal = s.journal ∧ t.office = s.office)
          ∧ (s.portals[p].leaf = .held →
              t.journal.getLast? =
                some { s.blankRecord .heldCleared with
                  subject := some p.val
                  count := some
                    (match s.portals[p].held with
                     | some h => min ((s.clock.tick - h.start) / 100) 65535
                     | none => 0) }))
      ∧ (s.portals[p].leaf = .forced →
          t.journal.getLast? =
            some { s.blankRecord .forcedCleared with subject := some p.val, count := some s.portals[p].passages })
      ∧ (s.portals[p].leaf = .secure ∨ s.portals[p].leaf = .released ∨ s.portals[p].leaf = .free →
          t.portals[p] = { s.portals[p] with position := .closed, leafDebounce := none } ∧ t.journal = s.journal)

/-- R85, R98, R115: the exit button. A press at a SECURE portal whose button is enabled and whose group is not busy
releases it with one grant and no move, at an EXIT_BUTTON record of count 1; a busy group blocks it with an
EXIT_BLOCKED record of the busy condition; an initial recognition is no press. The recognition of RELEASED allows the
next press and changes nothing else. -/
def Obligations.ExitButtonActs : Prop :=
  ∀ (s : State) (p : Fin 16),
    (s.exitDue p true = true → s.portals[p].exit = .released → (s.portalRec p).exitButton = true →
      s.portals[p].leaf = .secure → s.busyFor p = none →
      ∃ t, exec (.exitPress p) s = .next t
        ∧ t.portals[p] =
            { s.portals[p] with
              exit := .pressed, exitDebounce := none, leaf := .released, grants := 1, passages := 0, tailgate := true,
              moves := [], unlock := some (s.clock.tick + s.unlockPeriod p) }
        ∧ t.journal.getLast? = some { s.blankRecord .exitButton with subject := some p.val, count := some 1 }
        ∧ (∀ q : Fin 16, q ≠ p → t.portals[q] = s.portals[q]) ∧ t.outs.strike[p] = releaseLevel (s.portalRec p)
        ∧ t = { s with portals := t.portals, journal := t.journal, office := t.office, outs := t.outs })
    ∧ (∀ condition : Nat, s.exitDue p true = true → s.portals[p].exit = .released → (s.portalRec p).exitButton = true →
      s.portals[p].leaf ≠ .free → s.portals[p].leaf ≠ .forced → s.busyFor p = some condition →
      ∃ t, exec (.exitPress p) s = .next t
        ∧ t.portals[p] = { s.portals[p] with exit := .pressed, exitDebounce := none }
        ∧ t.journal.getLast? =
            some { s.blankRecord .exitBlocked with subject := some p.val, count := some condition })
    ∧ (s.exitDue p true = true → s.portals[p].exit = .unknown →
      exec (.exitPress p) s =
        .next (s.modPortal p (fun q => { q with exit := .pressed, exitDebounce := none })).drive)
    ∧ (s.exitDue p false = true →
      exec (.exitReleaseRecognized p) s =
        .next (s.modPortal p (fun q => { q with exit := .released, exitDebounce := none })).drive)

/-- R88: the unlock timer expires at a RELEASED portal with no leaf sensor: it becomes SECURE with its strike at
secure level, its moves commit one after another in list order and its list is empty, the cycle ends without a
tailgate check, and no record is appended. -/
def Obligations.UnlockExpiryCommits : Prop :=
  ∀ (s : State) (p : Fin 16), s.unlockDue p = true → s.portals[p].leaf = .released →
    (s.portalRec p).leafSensor = false →
    ∃ t, exec (.unlockExpiry p) s = .next t
      ∧ t.portals[p].leaf = .secure ∧ t.outs.strike[p] = secureLevel (s.portalRec p)
      ∧ t.roster = (s.portals[p].moves.foldl State.commit s).roster
      ∧ t.store = (s.portals[p].moves.foldl State.commit s).store
      ∧ t.cars = (s.portals[p].moves.foldl State.commit s).cars
      ∧ t.portals[p].moves = [] ∧ t.portals[p].grants = 0 ∧ t.portals[p].passages = 0
      ∧ t.portals[p].tailgate = false ∧ t.portals[p].unlock = none
      ∧ (∀ q : Fin 16, q ≠ p → t.portals[q] = s.portals[q])
      ∧ t = { s with portals := t.portals, roster := t.roster, cars := t.cars, store := t.store, outs := t.outs }

/-- R89, R92: the portal's two timers. Where the unlock timer expires with a leaf sensor fitted the release lapses
unused: the portal becomes SECURE, the roster is untouched, and every pending move is discarded in list order with a
NOT_USED record that carries its id and any ticket. Where the held timer expires while the portal is OPEN, the portal
is HELD, a HELD record carries the limit in seconds, both ports are flagged, and ALARM is asserted. -/
def Obligations.PortalTimersExpire : Prop :=
  (∀ (s : State) (p : Fin 16), s.unlockDue p = true → s.portals[p].leaf = .released →
     (s.portalRec p).leafSensor = true →
     ∃ t, exec (.unlockExpiry p) s = .next t
       ∧ t.portals[p].leaf = .secure ∧ t.outs.strike[p] = secureLevel (s.portalRec p)
       ∧ t.portals[p].moves = [] ∧ t.portals[p].grants = 0 ∧ t.portals[p].unlock = none
       ∧ (∀ q : Fin 16, q ≠ p → t.portals[q] = s.portals[q])
       ∧ t = { s with portals := t.portals, journal := t.journal, office := t.office, outs := t.outs }
       ∧ (s.journal.length + s.portals[p].moves.length ≤ 512 →
           t.journal = s.journal ++ s.portals[p].moves.map (fun m =>
             { s.blankRecord .notUsed with subject := some p.val, id := some m.id, ticket := m.ticket })))
    ∧ ∀ (s : State) (p : Fin 16) (start limit : Nat), s.running = true → s.portals[p].leaf = .opened →
        s.portals[p].held = some { start := start, expiry := some s.clock.tick } → s.clock.tick = start + limit * 100 →
        ∃ t, exec (.heldTimerExpiry p) s = .next t
          ∧ t.portals[p] = { s.portals[p] with leaf := .held, held := some { start := start, expiry := none } }
          ∧ t.journal.getLast? = some { s.blankRecord .held with subject := some p.val, count := some limit }
          ∧ t.office.flags.getLsbD 5 = true ∧ t.field.flags.getLsbD 5 = true ∧ t.outs.alarm = true
          ∧ (∀ q : Fin 16, q ≠ p → t.portals[q] = s.portals[q])
          ∧ t = { s with portals := t.portals, journal := t.journal, office := t.office, field := t.field, outs := t.outs }

/-- R104: HOLD_MODE sets the hold, and the effective mode is then the hold, but FREE at an egress portal under fire;
the reply carries the effective mode. No other portal changes. A portal outside 0 to 15 or a mode that is not one of
the four is refused with BAD_VALUE. -/
def Obligations.HoldModeHolds : Prop :=
  (∀ (s : State) (p : Fin 16) (m : Mode), s.acknowledges .office = true →
    ∃ t, exec (.holdMode p.val m.code) s = .next t
      ∧ t.portals[p].hold = some m
      ∧ t.portals[p].mode = (if s.egressUnderFire p = true then .free else m)
      ∧ t.office.reply = some ⟨.ok, byte1 (if s.egressUnderFire p = true then 3 else m.code)⟩
      ∧ (∀ q : Fin 16, q ≠ p → t.portals[q] = s.portals[q])
      ∧ t = { s with
          portals := t.portals, roster := t.roster, cars := t.cars, store := t.store, referrals := t.referrals,
          journal := t.journal, office := t.office, field := t.field, outs := t.outs })
    ∧ ∀ (s : State) (portal mode : Nat), s.acknowledges .office = true → (15 < portal ∨ 3 < mode) →
        exec (.holdMode portal mode) s = .next (State.drive { s with office := s.office.answered ⟨.badValue, []⟩ })

/-- R105: RELEASE_HOLD. On the Field Port its frame is refused with NOT_PERMITTED; a portal number outside 0 to 15
with BAD_VALUE and a portal with no hold with NOT_FOUND; otherwise the hold is removed, the effective mode is
recomputed from fire, the held schedule verdict and the base mode, and the reply carries it. A FREE portal whose
verdict is IN stays FREE with no record. -/
def Obligations.ReleaseHoldReleases : Prop :=
  ∀ s : State,
    (∀ n : Nat, n < 256 → s.acknowledges .field = true →
      exec (.writeFrame .field (frameOf 0x22 (byte1 n))) s =
        .next (State.drive { s with field := s.field.answered ⟨.notPermitted, []⟩ }))
    ∧ (∀ n : Nat, s.acknowledges .office = true → 15 < n →
      exec (.releaseHold n) s = .next (State.drive { s with office := s.office.answered ⟨.badValue, []⟩ }))
    ∧ ∀ p : Fin 16, s.acknowledges .office = true →
      (s.portals[p].hold = none →
        exec (.releaseHold p.val) s = .next (State.drive { s with office := s.office.answered ⟨.notFound, []⟩ }))
      ∧ (s.portals[p].hold ≠ none →
        ∃ t, exec (.releaseHold p.val) s = .next t
          ∧ t.portals[p].hold = none
          ∧ t.portals[p].mode =
              (if s.fire.active = true ∧ (s.portalRec p).egress = true then .free
               else if s.portals[p].verdict = .inWindow then .free
               else match (s.portalRec p).baseMode with
                 | .normal => .normal
                 | .referral => .referral
                 | .locked => .locked)
          ∧ t.office.reply = some ⟨.ok, byte1 t.portals[p].mode.code⟩
          ∧ (∀ q : Fin 16, q ≠ p → t.portals[q] = s.portals[q])
          ∧ t = { s with
              portals := t.portals, roster := t.roster, cars := t.cars, store := t.store, referrals := t.referrals,
              journal := t.journal, office := t.office, field := t.field, outs := t.outs }
          ∧ (s.portals[p].mode = .free → s.portals[p].verdict = .inWindow →
              t.portals[p].mode = .free ∧ t.journal = s.journal))

/-- R100 to R103: a mode that changes takes effect with a MODE record of the new mode and MODE_CHANGE on the Field Port;
a mode that does not changes nothing. FREE frees the portal from any leaf state and empties its list, and its PENDING
referrals are FREED. Leaving FREE gives SECURE, or OPEN with a fresh unjudged cycle and a started held timer where the
leaf is recognized open; LOCKED while RELEASED gives SECURE. The MODE record comes first; after it come the NOT_USED
records of discarded moves in list order, the HELD_CLEARED or FORCED_CLEARED record of a HELD or FORCED portal that is
freed, and the REFERRAL_OUTCOME records of its freed referrals. No other portal changes. HOLD_MODE brings such a change
about with the hold it sets. -/
def Obligations.ModeTakesEffect : Prop :=
  (∀ (s : State) (p : Fin 16),
    (s.effectiveMode p = s.portals[p].mode → s.recomputeMode p = s)
    ∧ (s.effectiveMode p ≠ s.portals[p].mode →
      (s.recomputeMode p).portals[p].mode = s.effectiveMode p
      ∧ (s.recomputeMode p).field.flags.getLsbD 13 = true
      ∧ (∀ q : Fin 16, q ≠ p → (s.recomputeMode p).portals[q] = s.portals[q])
      ∧ (s.effectiveMode p = .free →
          (s.recomputeMode p).portals[p].leaf = .free ∧ (s.recomputeMode p).portals[p].moves = []
            ∧ (s.recomputeMode p).portals[p].unlock = none ∧ (s.recomputeMode p).portals[p].held = none
            ∧ ∀ e ∈ (s.recomputeMode p).referrals, e.state = .pending → e.reader ≠ 2 * p.val)
      ∧ (s.portals[p].mode = .free → s.portals[p].position ≠ .opened →
          (s.recomputeMode p).portals[p].leaf = .secure)
      ∧ (s.portals[p].mode = .free → s.portals[p].position = .opened →
          (s.recomputeMode p).portals[p].leaf = .opened ∧ (s.recomputeMode p).portals[p].grants = 0
            ∧ (s.recomputeMode p).portals[p].tailgate = false
            ∧ (s.recomputeMode p).portals[p].held.isSome = true)
      ∧ (s.effectiveMode p = .locked → s.portals[p].mode ≠ .free → s.portals[p].leaf = .released →
          (s.recomputeMode p).portals[p].leaf = .secure ∧ (s.recomputeMode p).portals[p].moves = [])
      ∧ (s.journal.length + 2 + s.portals[p].moves.length + s.referrals.length ≤ 512 →
          (s.recomputeMode p).journal =
            s.journal
              ++ [{ s.blankRecord .mode with subject := some p.val, outcome := some (.mode (s.effectiveMode p)) }]
              ++ (if s.effectiveMode p = .free
                      ∨ (s.effectiveMode p = .locked ∧ s.portals[p].mode ≠ .free ∧ s.portals[p].leaf = .released
                          ∧ (s.portalRec p).leafSensor = true) then
                    s.portals[p].moves.map (fun m =>
                      { s.blankRecord .notUsed with subject := some p.val, id := some m.id, ticket := m.ticket })
                  else [])
              ++ (if s.effectiveMode p ≠ .free then []
                  else if s.portals[p].leaf = .held then
                    [{ s.blankRecord .heldCleared with
                       subject := some p.val
                       count := some
                         (match s.portals[p].held with
                          | some h => min ((s.clock.tick - h.start) / 100) 65535
                          | none => 0) }]
                  else if s.portals[p].leaf = .forced then
                    [{ s.blankRecord .forcedCleared with
                       subject := some p.val, count := some s.portals[p].passages }]
                  else [])
              ++ (if s.effectiveMode p ≠ .free then []
                  else (s.referrals.filter (fun e => e.state == .pending && e.reader == 2 * p.val)).map (fun e =>
                    { s.blankRecord .referralOutcome with
                      subject := some e.reader, id := some e.id, outcome := some (.entry .freed),
                      ticket := some e.ticket })))))
    ∧ ∀ (s u : State) (p : Fin 16) (m : Mode), s.acknowledges .office = true →
        u = (s.modPortal p (fun q => { q with hold := some m })).recomputeMode p →
        ∃ t, exec (.holdMode p.val m.code) s = .next t
          ∧ t.portals = u.portals ∧ t.journal = u.journal ∧ t.referrals = u.referrals ∧ t.roster = u.roster
          ∧ t.field = u.field

/-! ## Fire and tamper -/

/-- R150, R155: the filters of FIRE_IN and TAMPER. A FIRE_IN that comes to differ from the fire state starts the
20-tick filter, and one that comes to agree cancels it. While the latch is clear, TAMPER asserted starts the 10-tick
filter and TAMPER negated cancels it; at its expiry the latch sets, with its record, its flags and ALARM. -/
def Obligations.FireAndTamperFilters : Prop :=
  (∀ (s : State) (high : Bool), s.sampling = true → s.pins.fireHigh ≠ high →
     exec (.fireInChange high) s =
       .next (State.drive
         { s with
           pins := { s.pins with fireHigh := high }
           fire :=
             { s.fire with
               filter := if (high == s.fire.activeHigh) = s.fire.active then none else some (s.clock.tick + 20) } }))
    ∧ ∀ s : State, s.running = true →
    (s.fire.latch = false → ∀ level : Bool, s.pins.tamper ≠ level →
      exec (.tamperLineChange level) s =
        .next (State.drive
          { s with
            pins := { s.pins with tamper := level }
            fire := { s.fire with tamperFilter := if level then some (s.clock.tick + 10) else none } }))
    ∧ (s.fire.tamperFilter = some s.clock.tick →
      ∃ t, exec .tamperLatchSet s = .next t
        ∧ t.fire = { s.fire with latch := true, tamperFilter := none }
        ∧ t.journal.getLast? = some (s.blankRecord .tamper)
        ∧ t.office.flags.getLsbD 8 = true ∧ t.field.flags.getLsbD 8 = true ∧ t.outs.alarm = true
        ∧ t = { s with
            fire := t.fire, journal := t.journal, office := t.office, field := t.field, outs := t.outs })

/-- R151: at the onset the fire state is ACTIVE, FIRE is raised on both ports, every egress-flagged portal is FREE
with its strike at release level, and no other portal, no zone and no entry of the roster changes. -/
def Obligations.FireOnsetFrees : Prop :=
  ∀ s : State, s.running = true → s.onsetDue = true →
    (∀ p : Fin 16, s.portals[p].mode = .free → s.portals[p].leaf = .free) →
    ∃ t, exec .fireOnset s = .next t
      ∧ t.fire.active = true ∧ t.fire.filter = none
      ∧ t.office.flags.getLsbD 7 = true ∧ t.field.flags.getLsbD 7 = true
      ∧ (∀ p : Fin 16, (s.portalRec p).egress = true →
          t.portals[p].mode = .free ∧ t.portals[p].leaf = .free ∧ t.outs.strike[p] = releaseLevel (s.portalRec p))
      ∧ (∀ p : Fin 16, (s.portalRec p).egress = false → t.portals[p] = s.portals[p])
      ∧ t = { s with
          fire := t.fire, portals := t.portals, referrals := t.referrals, journal := t.journal, office := t.office,
          field := t.field, outs := t.outs }

/-- R77, R153: at the clear the fire state is CLEAR, every roster entry is marked, a FIRE_OFF record counts them, FIRE
is raised on both ports, and every portal keeps its leaf state and mode until it takes the clear; it then recomputes
its mode from its hold, its held verdict and its base mode. -/
def Obligations.FireClearMarks : Prop :=
  ∀ s : State,
    (s.running = true → s.clearDue = true →
      ∃ t, exec .fireClear s = .next t
        ∧ t.fire.active = false ∧ t.roster = s.roster.map (fun e => { e with muster := true })
        ∧ t.journal.getLast? = some { s.blankRecord .fireOff with count := some s.roster.length }
        ∧ t.office.flags.getLsbD 7 = true ∧ t.field.flags.getLsbD 7 = true
        ∧ (∀ p : Fin 16, t.portals[p] = { s.portals[p] with recompute := true })
        ∧ t = { s with
            fire := t.fire, roster := t.roster, portals := t.portals, journal := t.journal, office := t.office,
            field := t.field, outs := t.outs })
    ∧ ∀ p : Fin 16, s.running = true → s.portals[p].recompute = true →
      ∃ t, exec (.fireClearRecomputation p) s = .next t
        ∧ t.portals[p].recompute = false ∧ t.portals[p].mode = s.effectiveMode p
        ∧ (∀ q : Fin 16, q ≠ p → t.portals[q] = s.portals[q])
        ∧ t = { s with
            portals := t.portals, roster := t.roster, cars := t.cars, store := t.store, referrals := t.referrals,
            journal := t.journal, office := t.office, field := t.field, outs := t.outs }

/-! ## Power, reset and restore -/

/-- R26, R29, R30, R150, R171: restore begins. POWER_ON with RESET_N negated stops every block, keeps the slots,
examines the retention mark, restarts the tick count, samples the straps and begins restore. RESET_N negated with
power begins restore too: the tick count restarts from 0 while the time runs on, and the straps are sampled. (RESET_N
asserted at power-on: log entry 15) -/
def Obligations.RestoreBegins : Prop :=
  (∀ s : State, s.power.main = false → s.power.resetAsserted = false →
     ∃ t, exec .powerOn s = .next t
       ∧ VolatileLost t ∧ t.power = { main := true, resetAsserted := false }
       ∧ t.store.slots = s.store.slots ∧ t.pins = s.pins
       ∧ (s.clock.mark = true → t.clock = { s.clock.settle with tick := 0 })
       ∧ (s.clock.mark = false →
           t.clock = { day := 0, minute := 0, second := 0, valid := false, phase := 0, tick := 0, mark := true,
                       boundaryDue := false })
       ∧ t.fire.activeHigh = s.pins.straps.firePolHigh
       ∧ (t.fire.filter = if s.pins.fireHigh = s.pins.straps.firePolHigh then some 20 else none)
       ∧ t.office.address = 0x5C + 2 * s.pins.straps.oaddr1.toNat + s.pins.straps.oaddr0.toNat
       ∧ t.field.address = 0x64 + 2 * s.pins.straps.faddr1.toNat + s.pins.straps.faddr0.toNat)
    ∧ ∀ s : State, s.power.main = true → s.power.resetAsserted = true →
        ∃ t, exec .resetNegate s = .next t
          ∧ t.power = { main := true, resetAsserted := false } ∧ t.clock = { s.clock with tick := 0 }
          ∧ t.fire.activeHigh = s.pins.straps.firePolHigh
          ∧ t.office.address = 0x5C + 2 * s.pins.straps.oaddr1.toNat + s.pins.straps.oaddr0.toNat
          ∧ t.field.address = 0x64 + 2 * s.pins.straps.faddr1.toNat + s.pins.straps.faddr0.toNat
          ∧ t.store = s.store ∧ t.roster = s.roster ∧ t.journal = s.journal ∧ t.portals = s.portals

/-- R26, R30: main power failing, or RESET_N asserted, stops every block at once and leaves the slots that are not being
programmed; the slot being programmed holds what it held, what was being written, or is INVALID. The clock domain runs on
through RESET_N, and through a loss of main power while VBAT holds; with neither supply it loses its retention mark and
its time, whichever of the two fails last, and a failed VBAT changes nothing else. (the interrupted slot is a free
value: log entry 1; VBAT's level, and the lost time: log entry 16; a VBAT level carried by a TICK: log entry 14) -/
def Obligations.StoppingLosesVolatileState : Prop :=
  ∀ s : State,
    (s.power.main = true →
      ∃ t, exec .mainPowerLoss s = .next t ∧ VolatileLost t ∧ t.power = { s.power with main := false }
        ∧ t.pins = s.pins
        ∧ (s.pins.straps.vbat = true → t.clock = s.clock.settle)
        ∧ (s.pins.straps.vbat = false → t.clock.mark = false ∧ t.clock.valid = false)
        ∧ (s.store.job = none → t.store.slots = s.store.slots)
        ∧ (∀ (j : Job) (w : SlotWrite), s.store.job = some j → j.writes[j.verified]? = some w →
            t.store.slots = s.store.slots ∨ t.store.slots = s.store.slots.program true w
              ∨ t.store.slots = s.store.slots.program false w))
    ∧ (s.power.resetAsserted = false →
      ∃ t, exec .resetAssert s = .next t ∧ VolatileLost t ∧ t.power = { s.power with resetAsserted := true }
        ∧ t.clock = s.clock.settle ∧ t.pins = s.pins ∧ (s.store.job = none → t.store.slots = s.store.slots))
    ∧ (∃ t, exec .vbatLoss s = .next t
        ∧ t = { s with
            pins := { s.pins with straps := { s.pins.straps with vbat := false } }, clock := t.clock, outs := t.outs }
        ∧ (s.power.main = true → t.clock = s.clock)
        ∧ (s.power.main = false → t.clock.mark = false ∧ t.clock.valid = false))
    ∧ ∀ x : Straps, x.vbat = false → s.power.main = false →
        ∃ t, exec (.tick (some x)) s = .next t ∧ t.pins.straps = x ∧ t.clock.mark = false ∧ t.clock.valid = false

/-- R26, R27, R109, R164: restore completes: the Store is READY with the reconciled mirror, START is the first record
and carries the invalid-slot and reconciled counts, each portal is FREE where its mode is FREE and SECURE otherwise,
with no hold, no cycle and its recognitions unknown, and every strike is driven. (the reconciled count: log entry 20)
-/
def Obligations.RestoreCompletes : Prop :=
  ∀ s : State, s.sampling = true → s.store.phase = .restoring → s.journal = [] →
    ∃ t, exec .restoreComplete s = .next t
      ∧ t.store.phase = .ready ∧ t.store.mirror = s.store.slots.load.reconcile ∧ t.store.slots = s.store.slots
      ∧ t.journal =
          { s.blankRecord .start with
            count := some s.store.slots.invalidCount, secondCount := some s.store.slots.reconciledCount }
            :: (if s.fire.active = true then [{ s.blankRecord .fireOn with count := some t.egressPortals.length }] else [])
      ∧ (∀ p : Fin 16,
          t.portals[p].leaf = (if t.portals[p].mode = .free then .free else .secure)
            ∧ t.portals[p].hold = none ∧ t.portals[p].grants = 0 ∧ t.portals[p].passages = 0
            ∧ t.portals[p].moves = [] ∧ t.portals[p].unlock = none ∧ t.portals[p].held = none
            ∧ t.portals[p].position = (if (t.portalRec p).leafSensor = true then .unknown else .notSensed)
            ∧ t.portals[p].exit = .unknown
            ∧ (s.fire.active = true → (t.portalRec p).egress = true → t.portals[p].mode = .free)
            ∧ t.outs.strike[p] =
                (if t.portals[p].mode = .free then releaseLevel (t.portalRec p) else secureLevel (t.portalRec p)))
      ∧ t.fire =
          { s.fire with tamperFilter := if s.pins.tamper = true then some (s.clock.tick + 10) else none }
      ∧ t = { s with
          store := t.store, portals := t.portals, fire := t.fire, journal := t.journal, office := t.office,
          field := t.field, outs := t.outs }
end

