-- ==== Sys2Proof/Laws/State.lean ====
section
/-! SUPPORT. Laws of State: what each shared update leaves of each field, so that no later proof unfolds a record
update. -/

namespace Sys2Proof.Machine

/-! ## modPortal -/

@[simp] theorem State.modPortal_pending (s : State) (p : Fin 16) (f : Portal → Portal) :
    (s.modPortal p f).pending = s.pending := rfl
@[simp] theorem State.modPortal_power (s : State) (p : Fin 16) (f : Portal → Portal) :
    (s.modPortal p f).power = s.power := rfl
@[simp] theorem State.modPortal_pins (s : State) (p : Fin 16) (f : Portal → Portal) :
    (s.modPortal p f).pins = s.pins := rfl
@[simp] theorem State.modPortal_clock (s : State) (p : Fin 16) (f : Portal → Portal) :
    (s.modPortal p f).clock = s.clock := rfl
@[simp] theorem State.modPortal_store (s : State) (p : Fin 16) (f : Portal → Portal) :
    (s.modPortal p f).store = s.store := rfl
@[simp] theorem State.modPortal_roster (s : State) (p : Fin 16) (f : Portal → Portal) :
    (s.modPortal p f).roster = s.roster := rfl
@[simp] theorem State.modPortal_cars (s : State) (p : Fin 16) (f : Portal → Portal) :
    (s.modPortal p f).cars = s.cars := rfl
@[simp] theorem State.modPortal_referrals (s : State) (p : Fin 16) (f : Portal → Portal) :
    (s.modPortal p f).referrals = s.referrals := rfl
@[simp] theorem State.modPortal_ticketCounter (s : State) (p : Fin 16) (f : Portal → Portal) :
    (s.modPortal p f).ticketCounter = s.ticketCounter := rfl
@[simp] theorem State.modPortal_fire (s : State) (p : Fin 16) (f : Portal → Portal) :
    (s.modPortal p f).fire = s.fire := rfl
@[simp] theorem State.modPortal_journal (s : State) (p : Fin 16) (f : Portal → Portal) :
    (s.modPortal p f).journal = s.journal := rfl
@[simp] theorem State.modPortal_office (s : State) (p : Fin 16) (f : Portal → Portal) :
    (s.modPortal p f).office = s.office := rfl
@[simp] theorem State.modPortal_field (s : State) (p : Fin 16) (f : Portal → Portal) :
    (s.modPortal p f).field = s.field := rfl
@[simp] theorem State.modPortal_outs (s : State) (p : Fin 16) (f : Portal → Portal) :
    (s.modPortal p f).outs = s.outs := rfl
@[simp] theorem State.modPortal_freeCount (s : State) (p : Fin 16) (f : Portal → Portal) :
    (s.modPortal p f).freeCount = s.freeCount := rfl

/-! ## modCar -/

@[simp] theorem State.modCar_pending (s : State) (c : Fin 4) (f : Car → Car) :
    (s.modCar c f).pending = s.pending := rfl
@[simp] theorem State.modCar_power (s : State) (c : Fin 4) (f : Car → Car) : (s.modCar c f).power = s.power := rfl
@[simp] theorem State.modCar_pins (s : State) (c : Fin 4) (f : Car → Car) : (s.modCar c f).pins = s.pins := rfl
@[simp] theorem State.modCar_clock (s : State) (c : Fin 4) (f : Car → Car) : (s.modCar c f).clock = s.clock := rfl
@[simp] theorem State.modCar_store (s : State) (c : Fin 4) (f : Car → Car) : (s.modCar c f).store = s.store := rfl
@[simp] theorem State.modCar_roster (s : State) (c : Fin 4) (f : Car → Car) : (s.modCar c f).roster = s.roster := rfl
@[simp] theorem State.modCar_portals (s : State) (c : Fin 4) (f : Car → Car) :
    (s.modCar c f).portals = s.portals := rfl
@[simp] theorem State.modCar_referrals (s : State) (c : Fin 4) (f : Car → Car) :
    (s.modCar c f).referrals = s.referrals := rfl
@[simp] theorem State.modCar_ticketCounter (s : State) (c : Fin 4) (f : Car → Car) :
    (s.modCar c f).ticketCounter = s.ticketCounter := rfl
@[simp] theorem State.modCar_fire (s : State) (c : Fin 4) (f : Car → Car) : (s.modCar c f).fire = s.fire := rfl
@[simp] theorem State.modCar_journal (s : State) (c : Fin 4) (f : Car → Car) :
    (s.modCar c f).journal = s.journal := rfl
@[simp] theorem State.modCar_office (s : State) (c : Fin 4) (f : Car → Car) : (s.modCar c f).office = s.office := rfl
@[simp] theorem State.modCar_field (s : State) (c : Fin 4) (f : Car → Car) : (s.modCar c f).field = s.field := rfl
@[simp] theorem State.modCar_outs (s : State) (c : Fin 4) (f : Car → Car) : (s.modCar c f).outs = s.outs := rfl
@[simp] theorem State.modCar_freeCount (s : State) (c : Fin 4) (f : Car → Car) :
    (s.modCar c f).freeCount = s.freeCount := rfl

/-! ## modMirror -/

@[simp] theorem State.modMirror_pending (s : State) (f : Mirror → Mirror) : (s.modMirror f).pending = s.pending := rfl
@[simp] theorem State.modMirror_power (s : State) (f : Mirror → Mirror) : (s.modMirror f).power = s.power := rfl
@[simp] theorem State.modMirror_pins (s : State) (f : Mirror → Mirror) : (s.modMirror f).pins = s.pins := rfl
@[simp] theorem State.modMirror_clock (s : State) (f : Mirror → Mirror) : (s.modMirror f).clock = s.clock := rfl
@[simp] theorem State.modMirror_roster (s : State) (f : Mirror → Mirror) : (s.modMirror f).roster = s.roster := rfl
@[simp] theorem State.modMirror_portals (s : State) (f : Mirror → Mirror) : (s.modMirror f).portals = s.portals := rfl
@[simp] theorem State.modMirror_cars (s : State) (f : Mirror → Mirror) : (s.modMirror f).cars = s.cars := rfl
@[simp] theorem State.modMirror_referrals (s : State) (f : Mirror → Mirror) :
    (s.modMirror f).referrals = s.referrals := rfl
@[simp] theorem State.modMirror_ticketCounter (s : State) (f : Mirror → Mirror) :
    (s.modMirror f).ticketCounter = s.ticketCounter := rfl
@[simp] theorem State.modMirror_fire (s : State) (f : Mirror → Mirror) : (s.modMirror f).fire = s.fire := rfl
@[simp] theorem State.modMirror_journal (s : State) (f : Mirror → Mirror) : (s.modMirror f).journal = s.journal := rfl
@[simp] theorem State.modMirror_office (s : State) (f : Mirror → Mirror) : (s.modMirror f).office = s.office := rfl
@[simp] theorem State.modMirror_field (s : State) (f : Mirror → Mirror) : (s.modMirror f).field = s.field := rfl
@[simp] theorem State.modMirror_outs (s : State) (f : Mirror → Mirror) : (s.modMirror f).outs = s.outs := rfl
@[simp] theorem State.modMirror_freeCount (s : State) (f : Mirror → Mirror) :
    (s.modMirror f).freeCount = s.freeCount := rfl

/-! ## modEntry -/

@[simp] theorem State.modEntry_pending (s : State) (id : Nat) (f : RosterEntry → RosterEntry) :
    (s.modEntry id f).pending = s.pending := rfl
@[simp] theorem State.modEntry_power (s : State) (id : Nat) (f : RosterEntry → RosterEntry) :
    (s.modEntry id f).power = s.power := rfl
@[simp] theorem State.modEntry_pins (s : State) (id : Nat) (f : RosterEntry → RosterEntry) :
    (s.modEntry id f).pins = s.pins := rfl
@[simp] theorem State.modEntry_clock (s : State) (id : Nat) (f : RosterEntry → RosterEntry) :
    (s.modEntry id f).clock = s.clock := rfl
@[simp] theorem State.modEntry_store (s : State) (id : Nat) (f : RosterEntry → RosterEntry) :
    (s.modEntry id f).store = s.store := rfl
@[simp] theorem State.modEntry_portals (s : State) (id : Nat) (f : RosterEntry → RosterEntry) :
    (s.modEntry id f).portals = s.portals := rfl
@[simp] theorem State.modEntry_cars (s : State) (id : Nat) (f : RosterEntry → RosterEntry) :
    (s.modEntry id f).cars = s.cars := rfl
@[simp] theorem State.modEntry_referrals (s : State) (id : Nat) (f : RosterEntry → RosterEntry) :
    (s.modEntry id f).referrals = s.referrals := rfl
@[simp] theorem State.modEntry_ticketCounter (s : State) (id : Nat) (f : RosterEntry → RosterEntry) :
    (s.modEntry id f).ticketCounter = s.ticketCounter := rfl
@[simp] theorem State.modEntry_fire (s : State) (id : Nat) (f : RosterEntry → RosterEntry) :
    (s.modEntry id f).fire = s.fire := rfl
@[simp] theorem State.modEntry_journal (s : State) (id : Nat) (f : RosterEntry → RosterEntry) :
    (s.modEntry id f).journal = s.journal := rfl
@[simp] theorem State.modEntry_office (s : State) (id : Nat) (f : RosterEntry → RosterEntry) :
    (s.modEntry id f).office = s.office := rfl
@[simp] theorem State.modEntry_field (s : State) (id : Nat) (f : RosterEntry → RosterEntry) :
    (s.modEntry id f).field = s.field := rfl
@[simp] theorem State.modEntry_outs (s : State) (id : Nat) (f : RosterEntry → RosterEntry) :
    (s.modEntry id f).outs = s.outs := rfl
@[simp] theorem State.modEntry_freeCount (s : State) (id : Nat) (f : RosterEntry → RosterEntry) :
    (s.modEntry id f).freeCount = s.freeCount := rfl

/-! ## setFire -/

@[simp] theorem State.setFire_pending (s : State) (active : Bool) : (s.setFire active).pending = s.pending := rfl
@[simp] theorem State.setFire_power (s : State) (active : Bool) : (s.setFire active).power = s.power := rfl
@[simp] theorem State.setFire_pins (s : State) (active : Bool) : (s.setFire active).pins = s.pins := rfl
@[simp] theorem State.setFire_clock (s : State) (active : Bool) : (s.setFire active).clock = s.clock := rfl
@[simp] theorem State.setFire_store (s : State) (active : Bool) : (s.setFire active).store = s.store := rfl
@[simp] theorem State.setFire_roster (s : State) (active : Bool) : (s.setFire active).roster = s.roster := rfl
@[simp] theorem State.setFire_portals (s : State) (active : Bool) : (s.setFire active).portals = s.portals := rfl
@[simp] theorem State.setFire_cars (s : State) (active : Bool) : (s.setFire active).cars = s.cars := rfl
@[simp] theorem State.setFire_referrals (s : State) (active : Bool) :
    (s.setFire active).referrals = s.referrals := rfl
@[simp] theorem State.setFire_ticketCounter (s : State) (active : Bool) :
    (s.setFire active).ticketCounter = s.ticketCounter := rfl
@[simp] theorem State.setFire_journal (s : State) (active : Bool) : (s.setFire active).journal = s.journal := rfl
@[simp] theorem State.setFire_office (s : State) (active : Bool) : (s.setFire active).office = s.office := rfl
@[simp] theorem State.setFire_field (s : State) (active : Bool) : (s.setFire active).field = s.field := rfl
@[simp] theorem State.setFire_outs (s : State) (active : Bool) : (s.setFire active).outs = s.outs := rfl
@[simp] theorem State.setFire_freeCount (s : State) (active : Bool) :
    (s.setFire active).freeCount = s.freeCount := rfl

/-! ## startFireFilter -/

@[simp] theorem State.startFireFilter_pending (s : State) : (s.startFireFilter).pending = s.pending := rfl
@[simp] theorem State.startFireFilter_power (s : State) : (s.startFireFilter).power = s.power := rfl
@[simp] theorem State.startFireFilter_pins (s : State) : (s.startFireFilter).pins = s.pins := rfl
@[simp] theorem State.startFireFilter_clock (s : State) : (s.startFireFilter).clock = s.clock := rfl
@[simp] theorem State.startFireFilter_store (s : State) : (s.startFireFilter).store = s.store := rfl
@[simp] theorem State.startFireFilter_roster (s : State) : (s.startFireFilter).roster = s.roster := rfl
@[simp] theorem State.startFireFilter_portals (s : State) : (s.startFireFilter).portals = s.portals := rfl
@[simp] theorem State.startFireFilter_cars (s : State) : (s.startFireFilter).cars = s.cars := rfl
@[simp] theorem State.startFireFilter_referrals (s : State) : (s.startFireFilter).referrals = s.referrals := rfl
@[simp] theorem State.startFireFilter_ticketCounter (s : State) :
    (s.startFireFilter).ticketCounter = s.ticketCounter := rfl
@[simp] theorem State.startFireFilter_journal (s : State) : (s.startFireFilter).journal = s.journal := rfl
@[simp] theorem State.startFireFilter_office (s : State) : (s.startFireFilter).office = s.office := rfl
@[simp] theorem State.startFireFilter_field (s : State) : (s.startFireFilter).field = s.field := rfl
@[simp] theorem State.startFireFilter_outs (s : State) : (s.startFireFilter).outs = s.outs := rfl
@[simp] theorem State.startFireFilter_freeCount (s : State) : (s.startFireFilter).freeCount = s.freeCount := rfl

/-! ## removeReferral -/

@[simp] theorem State.removeReferral_pending (s : State) (ticket : Nat) :
    (s.removeReferral ticket).pending = s.pending := rfl
@[simp] theorem State.removeReferral_power (s : State) (ticket : Nat) :
    (s.removeReferral ticket).power = s.power := rfl
@[simp] theorem State.removeReferral_pins (s : State) (ticket : Nat) : (s.removeReferral ticket).pins = s.pins := rfl
@[simp] theorem State.removeReferral_clock (s : State) (ticket : Nat) :
    (s.removeReferral ticket).clock = s.clock := rfl
@[simp] theorem State.removeReferral_store (s : State) (ticket : Nat) :
    (s.removeReferral ticket).store = s.store := rfl
@[simp] theorem State.removeReferral_roster (s : State) (ticket : Nat) :
    (s.removeReferral ticket).roster = s.roster := rfl
@[simp] theorem State.removeReferral_portals (s : State) (ticket : Nat) :
    (s.removeReferral ticket).portals = s.portals := rfl
@[simp] theorem State.removeReferral_cars (s : State) (ticket : Nat) : (s.removeReferral ticket).cars = s.cars := rfl
@[simp] theorem State.removeReferral_ticketCounter (s : State) (ticket : Nat) :
    (s.removeReferral ticket).ticketCounter = s.ticketCounter := rfl
@[simp] theorem State.removeReferral_fire (s : State) (ticket : Nat) : (s.removeReferral ticket).fire = s.fire := rfl
@[simp] theorem State.removeReferral_journal (s : State) (ticket : Nat) :
    (s.removeReferral ticket).journal = s.journal := rfl
@[simp] theorem State.removeReferral_office (s : State) (ticket : Nat) :
    (s.removeReferral ticket).office = s.office := rfl
@[simp] theorem State.removeReferral_field (s : State) (ticket : Nat) :
    (s.removeReferral ticket).field = s.field := rfl
@[simp] theorem State.removeReferral_outs (s : State) (ticket : Nat) : (s.removeReferral ticket).outs = s.outs := rfl
@[simp] theorem State.removeReferral_freeCount (s : State) (ticket : Nat) :
    (s.removeReferral ticket).freeCount = s.freeCount := rfl

/-! ## presetUnlock -/

@[simp] theorem State.presetUnlock_pending (s : State) (p : Fin 16) : (s.presetUnlock p).pending = s.pending := rfl
@[simp] theorem State.presetUnlock_power (s : State) (p : Fin 16) : (s.presetUnlock p).power = s.power := rfl
@[simp] theorem State.presetUnlock_pins (s : State) (p : Fin 16) : (s.presetUnlock p).pins = s.pins := rfl
@[simp] theorem State.presetUnlock_clock (s : State) (p : Fin 16) : (s.presetUnlock p).clock = s.clock := rfl
@[simp] theorem State.presetUnlock_store (s : State) (p : Fin 16) : (s.presetUnlock p).store = s.store := rfl
@[simp] theorem State.presetUnlock_roster (s : State) (p : Fin 16) : (s.presetUnlock p).roster = s.roster := rfl
@[simp] theorem State.presetUnlock_cars (s : State) (p : Fin 16) : (s.presetUnlock p).cars = s.cars := rfl
@[simp] theorem State.presetUnlock_referrals (s : State) (p : Fin 16) :
    (s.presetUnlock p).referrals = s.referrals := rfl
@[simp] theorem State.presetUnlock_ticketCounter (s : State) (p : Fin 16) :
    (s.presetUnlock p).ticketCounter = s.ticketCounter := rfl
@[simp] theorem State.presetUnlock_fire (s : State) (p : Fin 16) : (s.presetUnlock p).fire = s.fire := rfl
@[simp] theorem State.presetUnlock_journal (s : State) (p : Fin 16) : (s.presetUnlock p).journal = s.journal := rfl
@[simp] theorem State.presetUnlock_office (s : State) (p : Fin 16) : (s.presetUnlock p).office = s.office := rfl
@[simp] theorem State.presetUnlock_field (s : State) (p : Fin 16) : (s.presetUnlock p).field = s.field := rfl
@[simp] theorem State.presetUnlock_outs (s : State) (p : Fin 16) : (s.presetUnlock p).outs = s.outs := rfl
@[simp] theorem State.presetUnlock_freeCount (s : State) (p : Fin 16) :
    (s.presetUnlock p).freeCount = s.freeCount := rfl

/-! ## judgeSchedule -/

@[simp] theorem State.judgeSchedule_pending (s : State) (p : Fin 16) : (s.judgeSchedule p).pending = s.pending := rfl
@[simp] theorem State.judgeSchedule_power (s : State) (p : Fin 16) : (s.judgeSchedule p).power = s.power := rfl
@[simp] theorem State.judgeSchedule_pins (s : State) (p : Fin 16) : (s.judgeSchedule p).pins = s.pins := rfl
@[simp] theorem State.judgeSchedule_clock (s : State) (p : Fin 16) : (s.judgeSchedule p).clock = s.clock := rfl
@[simp] theorem State.judgeSchedule_store (s : State) (p : Fin 16) : (s.judgeSchedule p).store = s.store := rfl
@[simp] theorem State.judgeSchedule_roster (s : State) (p : Fin 16) : (s.judgeSchedule p).roster = s.roster := rfl
@[simp] theorem State.judgeSchedule_cars (s : State) (p : Fin 16) : (s.judgeSchedule p).cars = s.cars := rfl
@[simp] theorem State.judgeSchedule_referrals (s : State) (p : Fin 16) :
    (s.judgeSchedule p).referrals = s.referrals := rfl
@[simp] theorem State.judgeSchedule_ticketCounter (s : State) (p : Fin 16) :
    (s.judgeSchedule p).ticketCounter = s.ticketCounter := rfl
@[simp] theorem State.judgeSchedule_fire (s : State) (p : Fin 16) : (s.judgeSchedule p).fire = s.fire := rfl
@[simp] theorem State.judgeSchedule_journal (s : State) (p : Fin 16) : (s.judgeSchedule p).journal = s.journal := rfl
@[simp] theorem State.judgeSchedule_office (s : State) (p : Fin 16) : (s.judgeSchedule p).office = s.office := rfl
@[simp] theorem State.judgeSchedule_field (s : State) (p : Fin 16) : (s.judgeSchedule p).field = s.field := rfl
@[simp] theorem State.judgeSchedule_outs (s : State) (p : Fin 16) : (s.judgeSchedule p).outs = s.outs := rfl
@[simp] theorem State.judgeSchedule_freeCount (s : State) (p : Fin 16) :
    (s.judgeSchedule p).freeCount = s.freeCount := rfl

/-! ## drive -/

@[simp] theorem State.drive_pending (s : State) : (s.drive).pending = s.pending := rfl
@[simp] theorem State.drive_power (s : State) : (s.drive).power = s.power := rfl
@[simp] theorem State.drive_pins (s : State) : (s.drive).pins = s.pins := rfl
@[simp] theorem State.drive_clock (s : State) : (s.drive).clock = s.clock := rfl
@[simp] theorem State.drive_store (s : State) : (s.drive).store = s.store := rfl
@[simp] theorem State.drive_roster (s : State) : (s.drive).roster = s.roster := rfl
@[simp] theorem State.drive_portals (s : State) : (s.drive).portals = s.portals := rfl
@[simp] theorem State.drive_cars (s : State) : (s.drive).cars = s.cars := rfl
@[simp] theorem State.drive_referrals (s : State) : (s.drive).referrals = s.referrals := rfl
@[simp] theorem State.drive_ticketCounter (s : State) : (s.drive).ticketCounter = s.ticketCounter := rfl
@[simp] theorem State.drive_fire (s : State) : (s.drive).fire = s.fire := rfl
@[simp] theorem State.drive_journal (s : State) : (s.drive).journal = s.journal := rfl
@[simp] theorem State.drive_office (s : State) : (s.drive).office = s.office := rfl
@[simp] theorem State.drive_field (s : State) : (s.drive).field = s.field := rfl
@[simp] theorem State.drive_freeCount (s : State) : (s.drive).freeCount = s.freeCount := rfl

/-! ## modPort -/

@[simp] theorem State.modPort_pending (s : State) (p : Port) (f : PortState → PortState) :
    (s.modPort p f).pending = s.pending := by cases p <;> rfl
@[simp] theorem State.modPort_power (s : State) (p : Port) (f : PortState → PortState) :
    (s.modPort p f).power = s.power := by cases p <;> rfl
@[simp] theorem State.modPort_pins (s : State) (p : Port) (f : PortState → PortState) :
    (s.modPort p f).pins = s.pins := by cases p <;> rfl
@[simp] theorem State.modPort_clock (s : State) (p : Port) (f : PortState → PortState) :
    (s.modPort p f).clock = s.clock := by cases p <;> rfl
@[simp] theorem State.modPort_store (s : State) (p : Port) (f : PortState → PortState) :
    (s.modPort p f).store = s.store := by cases p <;> rfl
@[simp] theorem State.modPort_roster (s : State) (p : Port) (f : PortState → PortState) :
    (s.modPort p f).roster = s.roster := by cases p <;> rfl
@[simp] theorem State.modPort_portals (s : State) (p : Port) (f : PortState → PortState) :
    (s.modPort p f).portals = s.portals := by cases p <;> rfl
@[simp] theorem State.modPort_cars (s : State) (p : Port) (f : PortState → PortState) :
    (s.modPort p f).cars = s.cars := by cases p <;> rfl
@[simp] theorem State.modPort_referrals (s : State) (p : Port) (f : PortState → PortState) :
    (s.modPort p f).referrals = s.referrals := by cases p <;> rfl
@[simp] theorem State.modPort_ticketCounter (s : State) (p : Port) (f : PortState → PortState) :
    (s.modPort p f).ticketCounter = s.ticketCounter := by cases p <;> rfl
@[simp] theorem State.modPort_fire (s : State) (p : Port) (f : PortState → PortState) :
    (s.modPort p f).fire = s.fire := by cases p <;> rfl
@[simp] theorem State.modPort_journal (s : State) (p : Port) (f : PortState → PortState) :
    (s.modPort p f).journal = s.journal := by cases p <;> rfl
@[simp] theorem State.modPort_outs (s : State) (p : Port) (f : PortState → PortState) :
    (s.modPort p f).outs = s.outs := by cases p <;> rfl
@[simp] theorem State.modPort_freeCount (s : State) (p : Port) (f : PortState → PortState) :
    (s.modPort p f).freeCount = s.freeCount := by cases p <;> rfl

/-! ## raise -/

@[simp] theorem State.raise_pending (s : State) (p : Port) (g : Flag) :
    (s.raise p g).pending = s.pending := by cases p <;> rfl
@[simp] theorem State.raise_power (s : State) (p : Port) (g : Flag) :
    (s.raise p g).power = s.power := by cases p <;> rfl
@[simp] theorem State.raise_pins (s : State) (p : Port) (g : Flag) : (s.raise p g).pins = s.pins := by cases p <;> rfl
@[simp] theorem State.raise_clock (s : State) (p : Port) (g : Flag) :
    (s.raise p g).clock = s.clock := by cases p <;> rfl
@[simp] theorem State.raise_store (s : State) (p : Port) (g : Flag) :
    (s.raise p g).store = s.store := by cases p <;> rfl
@[simp] theorem State.raise_roster (s : State) (p : Port) (g : Flag) :
    (s.raise p g).roster = s.roster := by cases p <;> rfl
@[simp] theorem State.raise_portals (s : State) (p : Port) (g : Flag) :
    (s.raise p g).portals = s.portals := by cases p <;> rfl
@[simp] theorem State.raise_cars (s : State) (p : Port) (g : Flag) : (s.raise p g).cars = s.cars := by cases p <;> rfl
@[simp] theorem State.raise_referrals (s : State) (p : Port) (g : Flag) :
    (s.raise p g).referrals = s.referrals := by cases p <;> rfl
@[simp] theorem State.raise_ticketCounter (s : State) (p : Port) (g : Flag) :
    (s.raise p g).ticketCounter = s.ticketCounter := by cases p <;> rfl
@[simp] theorem State.raise_fire (s : State) (p : Port) (g : Flag) : (s.raise p g).fire = s.fire := by cases p <;> rfl
@[simp] theorem State.raise_journal (s : State) (p : Port) (g : Flag) :
    (s.raise p g).journal = s.journal := by cases p <;> rfl
@[simp] theorem State.raise_outs (s : State) (p : Port) (g : Flag) : (s.raise p g).outs = s.outs := by cases p <;> rfl
@[simp] theorem State.raise_freeCount (s : State) (p : Port) (g : Flag) :
    (s.raise p g).freeCount = s.freeCount := by cases p <;> rfl

/-! ## raiseBoth -/

@[simp] theorem State.raiseBoth_pending (s : State) (g : Flag) : (s.raiseBoth g).pending = s.pending := rfl
@[simp] theorem State.raiseBoth_power (s : State) (g : Flag) : (s.raiseBoth g).power = s.power := rfl
@[simp] theorem State.raiseBoth_pins (s : State) (g : Flag) : (s.raiseBoth g).pins = s.pins := rfl
@[simp] theorem State.raiseBoth_clock (s : State) (g : Flag) : (s.raiseBoth g).clock = s.clock := rfl
@[simp] theorem State.raiseBoth_store (s : State) (g : Flag) : (s.raiseBoth g).store = s.store := rfl
@[simp] theorem State.raiseBoth_roster (s : State) (g : Flag) : (s.raiseBoth g).roster = s.roster := rfl
@[simp] theorem State.raiseBoth_portals (s : State) (g : Flag) : (s.raiseBoth g).portals = s.portals := rfl
@[simp] theorem State.raiseBoth_cars (s : State) (g : Flag) : (s.raiseBoth g).cars = s.cars := rfl
@[simp] theorem State.raiseBoth_referrals (s : State) (g : Flag) : (s.raiseBoth g).referrals = s.referrals := rfl
@[simp] theorem State.raiseBoth_ticketCounter (s : State) (g : Flag) :
    (s.raiseBoth g).ticketCounter = s.ticketCounter := rfl
@[simp] theorem State.raiseBoth_fire (s : State) (g : Flag) : (s.raiseBoth g).fire = s.fire := rfl
@[simp] theorem State.raiseBoth_journal (s : State) (g : Flag) : (s.raiseBoth g).journal = s.journal := rfl
@[simp] theorem State.raiseBoth_outs (s : State) (g : Flag) : (s.raiseBoth g).outs = s.outs := rfl
@[simp] theorem State.raiseBoth_freeCount (s : State) (g : Flag) : (s.raiseBoth g).freeCount = s.freeCount := rfl

/-! ## holdReply -/

@[simp] theorem State.holdReply_pending (s : State) (p : Port) (r : Reply) :
    (s.holdReply p r).pending = s.pending := by cases p <;> rfl
@[simp] theorem State.holdReply_power (s : State) (p : Port) (r : Reply) :
    (s.holdReply p r).power = s.power := by cases p <;> rfl
@[simp] theorem State.holdReply_pins (s : State) (p : Port) (r : Reply) :
    (s.holdReply p r).pins = s.pins := by cases p <;> rfl
@[simp] theorem State.holdReply_clock (s : State) (p : Port) (r : Reply) :
    (s.holdReply p r).clock = s.clock := by cases p <;> rfl
@[simp] theorem State.holdReply_store (s : State) (p : Port) (r : Reply) :
    (s.holdReply p r).store = s.store := by cases p <;> rfl
@[simp] theorem State.holdReply_roster (s : State) (p : Port) (r : Reply) :
    (s.holdReply p r).roster = s.roster := by cases p <;> rfl
@[simp] theorem State.holdReply_portals (s : State) (p : Port) (r : Reply) :
    (s.holdReply p r).portals = s.portals := by cases p <;> rfl
@[simp] theorem State.holdReply_cars (s : State) (p : Port) (r : Reply) :
    (s.holdReply p r).cars = s.cars := by cases p <;> rfl
@[simp] theorem State.holdReply_referrals (s : State) (p : Port) (r : Reply) :
    (s.holdReply p r).referrals = s.referrals := by cases p <;> rfl
@[simp] theorem State.holdReply_ticketCounter (s : State) (p : Port) (r : Reply) :
    (s.holdReply p r).ticketCounter = s.ticketCounter := by cases p <;> rfl
@[simp] theorem State.holdReply_fire (s : State) (p : Port) (r : Reply) :
    (s.holdReply p r).fire = s.fire := by cases p <;> rfl
@[simp] theorem State.holdReply_journal (s : State) (p : Port) (r : Reply) :
    (s.holdReply p r).journal = s.journal := by cases p <;> rfl
@[simp] theorem State.holdReply_outs (s : State) (p : Port) (r : Reply) :
    (s.holdReply p r).outs = s.outs := by cases p <;> rfl
@[simp] theorem State.holdReply_freeCount (s : State) (p : Port) (r : Reply) :
    (s.holdReply p r).freeCount = s.freeCount := by cases p <;> rfl

/-! ## endFrame -/

@[simp] theorem State.endFrame_pending (s : State) (p : Port) :
    (s.endFrame p).pending = s.pending := by cases p <;> rfl
@[simp] theorem State.endFrame_power (s : State) (p : Port) : (s.endFrame p).power = s.power := by cases p <;> rfl
@[simp] theorem State.endFrame_pins (s : State) (p : Port) : (s.endFrame p).pins = s.pins := by cases p <;> rfl
@[simp] theorem State.endFrame_clock (s : State) (p : Port) : (s.endFrame p).clock = s.clock := by cases p <;> rfl
@[simp] theorem State.endFrame_store (s : State) (p : Port) : (s.endFrame p).store = s.store := by cases p <;> rfl
@[simp] theorem State.endFrame_roster (s : State) (p : Port) : (s.endFrame p).roster = s.roster := by cases p <;> rfl
@[simp] theorem State.endFrame_portals (s : State) (p : Port) :
    (s.endFrame p).portals = s.portals := by cases p <;> rfl
@[simp] theorem State.endFrame_cars (s : State) (p : Port) : (s.endFrame p).cars = s.cars := by cases p <;> rfl
@[simp] theorem State.endFrame_referrals (s : State) (p : Port) :
    (s.endFrame p).referrals = s.referrals := by cases p <;> rfl
@[simp] theorem State.endFrame_ticketCounter (s : State) (p : Port) :
    (s.endFrame p).ticketCounter = s.ticketCounter := by cases p <;> rfl
@[simp] theorem State.endFrame_fire (s : State) (p : Port) : (s.endFrame p).fire = s.fire := by cases p <;> rfl
@[simp] theorem State.endFrame_journal (s : State) (p : Port) :
    (s.endFrame p).journal = s.journal := by cases p <;> rfl
@[simp] theorem State.endFrame_outs (s : State) (p : Port) : (s.endFrame p).outs = s.outs := by cases p <;> rfl
@[simp] theorem State.endFrame_freeCount (s : State) (p : Port) :
    (s.endFrame p).freeCount = s.freeCount := by cases p <;> rfl

/-! ## openFrame -/

@[simp] theorem State.openFrame_pending (s : State) (p : Port) (f : FrameState) :
    (s.openFrame p f).pending = s.pending := by cases p <;> rfl
@[simp] theorem State.openFrame_power (s : State) (p : Port) (f : FrameState) :
    (s.openFrame p f).power = s.power := by cases p <;> rfl
@[simp] theorem State.openFrame_pins (s : State) (p : Port) (f : FrameState) :
    (s.openFrame p f).pins = s.pins := by cases p <;> rfl
@[simp] theorem State.openFrame_clock (s : State) (p : Port) (f : FrameState) :
    (s.openFrame p f).clock = s.clock := by cases p <;> rfl
@[simp] theorem State.openFrame_store (s : State) (p : Port) (f : FrameState) :
    (s.openFrame p f).store = s.store := by cases p <;> rfl
@[simp] theorem State.openFrame_roster (s : State) (p : Port) (f : FrameState) :
    (s.openFrame p f).roster = s.roster := by cases p <;> rfl
@[simp] theorem State.openFrame_portals (s : State) (p : Port) (f : FrameState) :
    (s.openFrame p f).portals = s.portals := by cases p <;> rfl
@[simp] theorem State.openFrame_cars (s : State) (p : Port) (f : FrameState) :
    (s.openFrame p f).cars = s.cars := by cases p <;> rfl
@[simp] theorem State.openFrame_referrals (s : State) (p : Port) (f : FrameState) :
    (s.openFrame p f).referrals = s.referrals := by cases p <;> rfl
@[simp] theorem State.openFrame_ticketCounter (s : State) (p : Port) (f : FrameState) :
    (s.openFrame p f).ticketCounter = s.ticketCounter := by cases p <;> rfl
@[simp] theorem State.openFrame_fire (s : State) (p : Port) (f : FrameState) :
    (s.openFrame p f).fire = s.fire := by cases p <;> rfl
@[simp] theorem State.openFrame_journal (s : State) (p : Port) (f : FrameState) :
    (s.openFrame p f).journal = s.journal := by cases p <;> rfl
@[simp] theorem State.openFrame_outs (s : State) (p : Port) (f : FrameState) :
    (s.openFrame p f).outs = s.outs := by cases p <;> rfl
@[simp] theorem State.openFrame_freeCount (s : State) (p : Port) (f : FrameState) :
    (s.openFrame p f).freeCount = s.freeCount := by cases p <;> rfl

/-! ## append -/

@[simp] theorem State.append_pending (s : State) (r : Record) : (s.append r).pending = s.pending := by
  unfold State.append
  dsimp only
  split
  · split <;> rfl
  · rfl
@[simp] theorem State.append_power (s : State) (r : Record) : (s.append r).power = s.power := by
  unfold State.append
  dsimp only
  split
  · split <;> rfl
  · rfl
@[simp] theorem State.append_pins (s : State) (r : Record) : (s.append r).pins = s.pins := by
  unfold State.append
  dsimp only
  split
  · split <;> rfl
  · rfl
@[simp] theorem State.append_clock (s : State) (r : Record) : (s.append r).clock = s.clock := by
  unfold State.append
  dsimp only
  split
  · split <;> rfl
  · rfl
@[simp] theorem State.append_store (s : State) (r : Record) : (s.append r).store = s.store := by
  unfold State.append
  dsimp only
  split
  · split <;> rfl
  · rfl
@[simp] theorem State.append_roster (s : State) (r : Record) : (s.append r).roster = s.roster := by
  unfold State.append
  dsimp only
  split
  · split <;> rfl
  · rfl
@[simp] theorem State.append_portals (s : State) (r : Record) : (s.append r).portals = s.portals := by
  unfold State.append
  dsimp only
  split
  · split <;> rfl
  · rfl
@[simp] theorem State.append_cars (s : State) (r : Record) : (s.append r).cars = s.cars := by
  unfold State.append
  dsimp only
  split
  · split <;> rfl
  · rfl
@[simp] theorem State.append_referrals (s : State) (r : Record) : (s.append r).referrals = s.referrals := by
  unfold State.append
  dsimp only
  split
  · split <;> rfl
  · rfl
@[simp] theorem State.append_ticketCounter (s : State) (r : Record) :
    (s.append r).ticketCounter = s.ticketCounter := by
  unfold State.append
  dsimp only
  split
  · split <;> rfl
  · rfl
@[simp] theorem State.append_fire (s : State) (r : Record) : (s.append r).fire = s.fire := by
  unfold State.append
  dsimp only
  split
  · split <;> rfl
  · rfl
@[simp] theorem State.append_field (s : State) (r : Record) : (s.append r).field = s.field := by
  unfold State.append
  dsimp only
  split
  · split <;> rfl
  · rfl
@[simp] theorem State.append_outs (s : State) (r : Record) : (s.append r).outs = s.outs := by
  unfold State.append
  dsimp only
  split
  · split <;> rfl
  · rfl
@[simp] theorem State.append_freeCount (s : State) (r : Record) : (s.append r).freeCount = s.freeCount := by
  unfold State.append
  dsimp only
  split
  · split <;> rfl
  · rfl

/-! ## note -/

@[simp] theorem State.note_pending (s : State) (k : Kind) (x y : Option Nat) :
    (s.note k x y).pending = s.pending := State.append_pending _ _
@[simp] theorem State.note_power (s : State) (k : Kind) (x y : Option Nat) :
    (s.note k x y).power = s.power := State.append_power _ _
@[simp] theorem State.note_pins (s : State) (k : Kind) (x y : Option Nat) :
    (s.note k x y).pins = s.pins := State.append_pins _ _
@[simp] theorem State.note_clock (s : State) (k : Kind) (x y : Option Nat) :
    (s.note k x y).clock = s.clock := State.append_clock _ _
@[simp] theorem State.note_store (s : State) (k : Kind) (x y : Option Nat) :
    (s.note k x y).store = s.store := State.append_store _ _
@[simp] theorem State.note_roster (s : State) (k : Kind) (x y : Option Nat) :
    (s.note k x y).roster = s.roster := State.append_roster _ _
@[simp] theorem State.note_portals (s : State) (k : Kind) (x y : Option Nat) :
    (s.note k x y).portals = s.portals := State.append_portals _ _
@[simp] theorem State.note_cars (s : State) (k : Kind) (x y : Option Nat) :
    (s.note k x y).cars = s.cars := State.append_cars _ _
@[simp] theorem State.note_referrals (s : State) (k : Kind) (x y : Option Nat) :
    (s.note k x y).referrals = s.referrals := State.append_referrals _ _
@[simp] theorem State.note_ticketCounter (s : State) (k : Kind) (x y : Option Nat) :
    (s.note k x y).ticketCounter = s.ticketCounter := State.append_ticketCounter _ _
@[simp] theorem State.note_fire (s : State) (k : Kind) (x y : Option Nat) :
    (s.note k x y).fire = s.fire := State.append_fire _ _
@[simp] theorem State.note_field (s : State) (k : Kind) (x y : Option Nat) :
    (s.note k x y).field = s.field := State.append_field _ _
@[simp] theorem State.note_outs (s : State) (k : Kind) (x y : Option Nat) :
    (s.note k x y).outs = s.outs := State.append_outs _ _
@[simp] theorem State.note_freeCount (s : State) (k : Kind) (x y : Option Nat) :
    (s.note k x y).freeCount = s.freeCount := State.append_freeCount _ _

/-! ## What an update sets -/

@[simp] theorem State.modPortal_val (s : State) (p : Fin 16) (f : Portal → Portal) :
    (s.modPortal p f).portals[p.val] = f s.portals[p.val] := by
  simp [State.modPortal]

theorem State.modPortal_self (s : State) (p : Fin 16) (f : Portal → Portal) :
    (s.modPortal p f).portals[p] = f s.portals[p] := by
  simp [State.modPortal]

theorem State.modPortal_other (s : State) (p q : Fin 16) (f : Portal → Portal) (h : p ≠ q) :
    (s.modPortal p f).portals[q] = s.portals[q] := by
  have h' : (p : Nat) ≠ q := fun e => h (Fin.ext e)
  simp [State.modPortal, Vector.getElem_set_ne, h']

/-- Every portal after a change of one. -/
theorem State.modPortal_get (s : State) (p q : Fin 16) (f : Portal → Portal) :
    (s.modPortal p f).portals[q] = if p = q then f s.portals[p] else s.portals[q] := by
  by_cases h : p = q
  · subst h
    rw [if_pos rfl]
    exact s.modPortal_self p f
  · rw [if_neg h]
    exact s.modPortal_other p q f h

@[simp] theorem State.modCar_val (s : State) (c : Fin 4) (f : Car → Car) :
    (s.modCar c f).cars[c.val] = f s.cars[c.val] := by
  simp [State.modCar]

theorem State.modCar_self (s : State) (c : Fin 4) (f : Car → Car) :
    (s.modCar c f).cars[c] = f s.cars[c] := by
  simp [State.modCar]

theorem State.modCar_other (s : State) (c d : Fin 4) (f : Car → Car) (h : c ≠ d) :
    (s.modCar c f).cars[d] = s.cars[d] := by
  have h' : (c : Nat) ≠ d := fun e => h (Fin.ext e)
  simp [State.modCar, Vector.getElem_set_ne, h']

@[simp] theorem State.modPort_self (s : State) (p : Port) (f : PortState → PortState) :
    (s.modPort p f).port p = f (s.port p) := by
  cases p <;> rfl

theorem State.modPort_other (s : State) (p q : Port) (f : PortState → PortState) (h : p ≠ q) :
    (s.modPort p f).port q = s.port q := by
  cases p <;> cases q <;> first | rfl | exact absurd rfl h

@[simp] theorem State.modMirror_mirror (s : State) (f : Mirror → Mirror) :
    (s.modMirror f).store.mirror = f s.store.mirror := rfl

@[simp] theorem State.drive_outs (s : State) : s.drive.outs = s.outputs := rfl

/-- The output pins do not feed back: driving them again changes nothing. -/
@[simp] theorem State.drive_drive (s : State) : s.drive.drive = s.drive := rfl

@[simp] theorem State.drive_outputs (s : State) : s.drive.outputs = s.outputs := rfl

@[simp] theorem State.drive_running (s : State) : s.drive.running = s.running := rfl

@[simp] theorem State.modPort_running (s : State) (p : Port) (f : PortState → PortState) :
    (s.modPort p f).running = s.running := by
  cases p <;> rfl

@[simp] theorem State.endFrame_running (s : State) (p : Port) : (s.endFrame p).running = s.running := by
  cases p <;> rfl

@[simp] theorem State.append_running (s : State) (r : Record) : (s.append r).running = s.running := by
  simp [State.running]

end Sys2Proof.Machine
end

