-- ==== Sys2Proof/Laws/Frames.lean ====
section
/-! SUPPORT. Frames: for each shared operation one lemma that names every field of the state it leaves as it was. A
simplification lemma each, so that a proof about one field never unfolds an operation that does not touch it. -/

namespace Sys2Proof.Machine

/-- What every step of a fold keeps, the fold keeps. -/
theorem foldl_keeps {α β : Type} (g : State → β) (f : State → α → State) (h : ∀ s a, g (f s a) = g s) (l : List α)
    (s : State) : g (l.foldl f s) = g s := by
  induction l generalizing s with
  | nil => rfl
  | cons a l ih => rw [List.foldl_cons, ih, h]

@[simp] theorem State.raise_office_field (s : State) (f : Flag) : (s.raise .office f).field = s.field := rfl
@[simp] theorem State.raise_field_office (s : State) (f : Flag) : (s.raise .field f).office = s.office := rfl
@[simp] theorem State.modPort_office_field (s : State) (f : PortState → PortState) :
    (s.modPort .office f).field = s.field := rfl
@[simp] theorem State.modPort_field_office (s : State) (f : PortState → PortState) :
    (s.modPort .field f).office = s.office := rfl

/-- Two states with the same fields are the same state. -/
theorem State.eq_of_fields {s t : State} (pending : s.pending = t.pending) (power : s.power = t.power)
    (pins : s.pins = t.pins) (clock : s.clock = t.clock) (store : s.store = t.store) (roster : s.roster = t.roster)
    (portals : s.portals = t.portals) (cars : s.cars = t.cars) (referrals : s.referrals = t.referrals)
    (ticketCounter : s.ticketCounter = t.ticketCounter) (fire : s.fire = t.fire) (journal : s.journal = t.journal)
    (office : s.office = t.office) (field : s.field = t.field) (outs : s.outs = t.outs)
    (freeCount : s.freeCount = t.freeCount) : s = t := by
  cases s
  cases t
  simp_all

@[simp] theorem State.spendBudget_frame (s : State) (id : Nat) :
    (s.spendBudget id).pending = s.pending ∧ (s.spendBudget id).power = s.power ∧ (s.spendBudget id).pins = s.pins
      ∧ (s.spendBudget id).clock = s.clock ∧ (s.spendBudget id).roster = s.roster
      ∧ (s.spendBudget id).portals = s.portals ∧ (s.spendBudget id).cars = s.cars
      ∧ (s.spendBudget id).referrals = s.referrals ∧ (s.spendBudget id).ticketCounter = s.ticketCounter
      ∧ (s.spendBudget id).fire = s.fire ∧ (s.spendBudget id).journal = s.journal
      ∧ (s.spendBudget id).office = s.office ∧ (s.spendBudget id).field = s.field ∧ (s.spendBudget id).outs = s.outs
      ∧ (s.spendBudget id).freeCount = s.freeCount := by
  unfold State.spendBudget
  repeat' split
  all_goals simp

@[simp] theorem State.createEntry_frame (s : State) (id zone : Nat) :
    (s.createEntry id zone).pending = s.pending ∧ (s.createEntry id zone).power = s.power
      ∧ (s.createEntry id zone).pins = s.pins ∧ (s.createEntry id zone).clock = s.clock
      ∧ (s.createEntry id zone).portals = s.portals ∧ (s.createEntry id zone).cars = s.cars
      ∧ (s.createEntry id zone).referrals = s.referrals ∧ (s.createEntry id zone).ticketCounter = s.ticketCounter
      ∧ (s.createEntry id zone).fire = s.fire ∧ (s.createEntry id zone).journal = s.journal
      ∧ (s.createEntry id zone).office = s.office ∧ (s.createEntry id zone).field = s.field
      ∧ (s.createEntry id zone).outs = s.outs ∧ (s.createEntry id zone).freeCount = s.freeCount := by
  simp [State.createEntry]

@[simp] theorem State.removeEntry_frame (s : State) (id : Nat) :
    (s.removeEntry id).pending = s.pending ∧ (s.removeEntry id).power = s.power ∧ (s.removeEntry id).pins = s.pins
      ∧ (s.removeEntry id).clock = s.clock ∧ (s.removeEntry id).store = s.store
      ∧ (s.removeEntry id).portals = s.portals ∧ (s.removeEntry id).referrals = s.referrals
      ∧ (s.removeEntry id).ticketCounter = s.ticketCounter ∧ (s.removeEntry id).fire = s.fire
      ∧ (s.removeEntry id).journal = s.journal ∧ (s.removeEntry id).office = s.office
      ∧ (s.removeEntry id).field = s.field ∧ (s.removeEntry id).outs = s.outs
      ∧ (s.removeEntry id).freeCount = s.freeCount := by
  unfold State.removeEntry
  simp only
  split <;> simp

@[simp] theorem State.applyMove_frame (s : State) (m : Move) :
    (s.applyMove m).pending = s.pending ∧ (s.applyMove m).power = s.power ∧ (s.applyMove m).pins = s.pins
      ∧ (s.applyMove m).clock = s.clock ∧ (s.applyMove m).portals = s.portals
      ∧ (s.applyMove m).referrals = s.referrals ∧ (s.applyMove m).ticketCounter = s.ticketCounter
      ∧ (s.applyMove m).fire = s.fire ∧ (s.applyMove m).journal = s.journal ∧ (s.applyMove m).office = s.office
      ∧ (s.applyMove m).field = s.field ∧ (s.applyMove m).outs = s.outs ∧ (s.applyMove m).freeCount = s.freeCount := by
  unfold State.applyMove
  repeat' split
  all_goals simp

@[simp] theorem State.commit_frame (s : State) (m : Move) :
    (s.commit m).pending = s.pending ∧ (s.commit m).power = s.power ∧ (s.commit m).pins = s.pins
      ∧ (s.commit m).clock = s.clock ∧ (s.commit m).portals = s.portals ∧ (s.commit m).referrals = s.referrals
      ∧ (s.commit m).ticketCounter = s.ticketCounter ∧ (s.commit m).fire = s.fire ∧ (s.commit m).journal = s.journal
      ∧ (s.commit m).office = s.office ∧ (s.commit m).field = s.field ∧ (s.commit m).outs = s.outs
      ∧ (s.commit m).freeCount = s.freeCount := by
  unfold State.commit
  repeat' split
  all_goals simp

@[simp] theorem State.commitAll_frame (s : State) (ms : List Move) :
    (s.commitAll ms).pending = s.pending ∧ (s.commitAll ms).power = s.power ∧ (s.commitAll ms).pins = s.pins
      ∧ (s.commitAll ms).clock = s.clock ∧ (s.commitAll ms).portals = s.portals
      ∧ (s.commitAll ms).referrals = s.referrals ∧ (s.commitAll ms).ticketCounter = s.ticketCounter
      ∧ (s.commitAll ms).fire = s.fire ∧ (s.commitAll ms).journal = s.journal ∧ (s.commitAll ms).office = s.office
      ∧ (s.commitAll ms).field = s.field ∧ (s.commitAll ms).outs = s.outs ∧ (s.commitAll ms).freeCount = s.freeCount := by
  unfold State.commitAll
  induction ms generalizing s with
  | nil => simp
  | cons m ms ih => simpa using ih (s.commit m)

@[simp] theorem State.discardAll_frame (s : State) (p : Fin 16) (ms : List Move) :
    (s.discardAll p ms).pending = s.pending ∧ (s.discardAll p ms).power = s.power ∧ (s.discardAll p ms).pins = s.pins
      ∧ (s.discardAll p ms).clock = s.clock ∧ (s.discardAll p ms).store = s.store
      ∧ (s.discardAll p ms).roster = s.roster ∧ (s.discardAll p ms).portals = s.portals
      ∧ (s.discardAll p ms).cars = s.cars ∧ (s.discardAll p ms).referrals = s.referrals
      ∧ (s.discardAll p ms).ticketCounter = s.ticketCounter ∧ (s.discardAll p ms).fire = s.fire
      ∧ (s.discardAll p ms).field = s.field ∧ (s.discardAll p ms).outs = s.outs
      ∧ (s.discardAll p ms).freeCount = s.freeCount := by
  unfold State.discardAll
  induction ms generalizing s with
  | nil => simp
  | cons m ms ih =>
    simpa using ih (s.append
      { s.blankRecord .notUsed with subject := some p.val, id := some m.id, ticket := m.ticket })

@[simp] theorem State.lapse_frame (s : State) (p : Fin 16) :
    (s.lapse p).pending = s.pending ∧ (s.lapse p).power = s.power ∧ (s.lapse p).pins = s.pins
      ∧ (s.lapse p).clock = s.clock ∧ (s.lapse p).referrals = s.referrals
      ∧ (s.lapse p).ticketCounter = s.ticketCounter ∧ (s.lapse p).fire = s.fire ∧ (s.lapse p).field = s.field
      ∧ (s.lapse p).outs = s.outs ∧ (s.lapse p).freeCount = s.freeCount := by
  unfold State.lapse
  simp only
  split <;> simp

@[simp] theorem State.judgeTailgate_frame (s : State) (p : Fin 16) (q : Portal) :
    (s.judgeTailgate p q).pending = s.pending ∧ (s.judgeTailgate p q).power = s.power
      ∧ (s.judgeTailgate p q).pins = s.pins ∧ (s.judgeTailgate p q).clock = s.clock
      ∧ (s.judgeTailgate p q).store = s.store ∧ (s.judgeTailgate p q).roster = s.roster
      ∧ (s.judgeTailgate p q).portals = s.portals ∧ (s.judgeTailgate p q).cars = s.cars
      ∧ (s.judgeTailgate p q).referrals = s.referrals ∧ (s.judgeTailgate p q).ticketCounter = s.ticketCounter
      ∧ (s.judgeTailgate p q).fire = s.fire ∧ (s.judgeTailgate p q).outs = s.outs
      ∧ (s.judgeTailgate p q).freeCount = s.freeCount := by
  unfold State.judgeTailgate
  repeat' split
  all_goals simp

@[simp] theorem State.grantMove_frame (s : State) (p : Fin 16) (m : Move) :
    (s.grantMove p m).pending = s.pending ∧ (s.grantMove p m).power = s.power ∧ (s.grantMove p m).pins = s.pins
      ∧ (s.grantMove p m).clock = s.clock ∧ (s.grantMove p m).referrals = s.referrals
      ∧ (s.grantMove p m).ticketCounter = s.ticketCounter ∧ (s.grantMove p m).fire = s.fire
      ∧ (s.grantMove p m).journal = s.journal ∧ (s.grantMove p m).office = s.office
      ∧ (s.grantMove p m).field = s.field ∧ (s.grantMove p m).outs = s.outs
      ∧ (s.grantMove p m).freeCount = s.freeCount := by
  unfold State.grantMove
  repeat' split
  all_goals simp

@[simp] theorem State.regrant_frame (s : State) (p : Fin 16) :
    (s.regrant p).pending = s.pending ∧ (s.regrant p).power = s.power ∧ (s.regrant p).pins = s.pins
      ∧ (s.regrant p).clock = s.clock ∧ (s.regrant p).store = s.store ∧ (s.regrant p).roster = s.roster
      ∧ (s.regrant p).cars = s.cars ∧ (s.regrant p).referrals = s.referrals
      ∧ (s.regrant p).ticketCounter = s.ticketCounter ∧ (s.regrant p).fire = s.fire
      ∧ (s.regrant p).journal = s.journal ∧ (s.regrant p).office = s.office ∧ (s.regrant p).field = s.field
      ∧ (s.regrant p).outs = s.outs ∧ (s.regrant p).freeCount = s.freeCount := by
  unfold State.regrant
  repeat' split
  all_goals simp

@[simp] theorem State.expireUnlock_frame (s : State) (p : Fin 16) :
    (s.expireUnlock p).pending = s.pending ∧ (s.expireUnlock p).power = s.power ∧ (s.expireUnlock p).pins = s.pins
      ∧ (s.expireUnlock p).clock = s.clock ∧ (s.expireUnlock p).referrals = s.referrals
      ∧ (s.expireUnlock p).ticketCounter = s.ticketCounter ∧ (s.expireUnlock p).fire = s.fire
      ∧ (s.expireUnlock p).field = s.field ∧ (s.expireUnlock p).outs = s.outs
      ∧ (s.expireUnlock p).freeCount = s.freeCount := by
  unfold State.expireUnlock
  repeat' split
  all_goals simp

@[simp] theorem State.expireHeld_frame (s : State) (p : Fin 16) :
    (s.expireHeld p).pending = s.pending ∧ (s.expireHeld p).power = s.power ∧ (s.expireHeld p).pins = s.pins
      ∧ (s.expireHeld p).clock = s.clock ∧ (s.expireHeld p).store = s.store ∧ (s.expireHeld p).roster = s.roster
      ∧ (s.expireHeld p).cars = s.cars ∧ (s.expireHeld p).referrals = s.referrals
      ∧ (s.expireHeld p).ticketCounter = s.ticketCounter ∧ (s.expireHeld p).fire = s.fire
      ∧ (s.expireHeld p).outs = s.outs ∧ (s.expireHeld p).freeCount = s.freeCount := by
  unfold State.expireHeld
  split <;> simp

@[simp] theorem State.leafOpened_frame (s : State) (p : Fin 16) :
    (s.leafOpened p).pending = s.pending ∧ (s.leafOpened p).power = s.power ∧ (s.leafOpened p).pins = s.pins
      ∧ (s.leafOpened p).clock = s.clock ∧ (s.leafOpened p).referrals = s.referrals
      ∧ (s.leafOpened p).ticketCounter = s.ticketCounter ∧ (s.leafOpened p).fire = s.fire
      ∧ (s.leafOpened p).outs = s.outs ∧ (s.leafOpened p).freeCount = s.freeCount := by
  unfold State.leafOpened
  simp only
  repeat' split
  all_goals simp

@[simp] theorem State.closeLeaf_frame (s : State) (p : Fin 16) :
    (s.closeLeaf p).pending = s.pending ∧ (s.closeLeaf p).power = s.power ∧ (s.closeLeaf p).pins = s.pins
      ∧ (s.closeLeaf p).clock = s.clock ∧ (s.closeLeaf p).store = s.store ∧ (s.closeLeaf p).roster = s.roster
      ∧ (s.closeLeaf p).cars = s.cars ∧ (s.closeLeaf p).referrals = s.referrals
      ∧ (s.closeLeaf p).ticketCounter = s.ticketCounter ∧ (s.closeLeaf p).fire = s.fire
      ∧ (s.closeLeaf p).outs = s.outs ∧ (s.closeLeaf p).freeCount = s.freeCount := by
  unfold State.closeLeaf
  simp only
  repeat' split
  all_goals simp

@[simp] theorem State.leafClosed_frame (s : State) (p : Fin 16) :
    (s.leafClosed p).pending = s.pending ∧ (s.leafClosed p).power = s.power ∧ (s.leafClosed p).pins = s.pins
      ∧ (s.leafClosed p).clock = s.clock ∧ (s.leafClosed p).store = s.store ∧ (s.leafClosed p).roster = s.roster
      ∧ (s.leafClosed p).cars = s.cars ∧ (s.leafClosed p).referrals = s.referrals
      ∧ (s.leafClosed p).ticketCounter = s.ticketCounter ∧ (s.leafClosed p).fire = s.fire
      ∧ (s.leafClosed p).outs = s.outs ∧ (s.leafClosed p).freeCount = s.freeCount := by
  simp [State.leafClosed]

@[simp] theorem State.pressExit_frame (s : State) (p : Fin 16) :
    (s.pressExit p).pending = s.pending ∧ (s.pressExit p).power = s.power ∧ (s.pressExit p).pins = s.pins
      ∧ (s.pressExit p).clock = s.clock ∧ (s.pressExit p).store = s.store ∧ (s.pressExit p).roster = s.roster
      ∧ (s.pressExit p).cars = s.cars ∧ (s.pressExit p).referrals = s.referrals
      ∧ (s.pressExit p).ticketCounter = s.ticketCounter ∧ (s.pressExit p).fire = s.fire
      ∧ (s.pressExit p).field = s.field ∧ (s.pressExit p).outs = s.outs ∧ (s.pressExit p).freeCount = s.freeCount := by
  unfold State.pressExit
  simp only
  repeat' split
  all_goals simp

@[simp] theorem State.exitPressed_frame (s : State) (p : Fin 16) :
    (s.exitPressed p).pending = s.pending ∧ (s.exitPressed p).power = s.power ∧ (s.exitPressed p).pins = s.pins
      ∧ (s.exitPressed p).clock = s.clock ∧ (s.exitPressed p).store = s.store ∧ (s.exitPressed p).roster = s.roster
      ∧ (s.exitPressed p).cars = s.cars ∧ (s.exitPressed p).referrals = s.referrals
      ∧ (s.exitPressed p).ticketCounter = s.ticketCounter ∧ (s.exitPressed p).fire = s.fire
      ∧ (s.exitPressed p).field = s.field ∧ (s.exitPressed p).outs = s.outs
      ∧ (s.exitPressed p).freeCount = s.freeCount := by
  unfold State.exitPressed
  simp only
  split <;> simp

@[simp] theorem State.resolve_frame (s : State) (e : Referral) (o : EntryOutcome) :
    (s.resolve e o).pending = s.pending ∧ (s.resolve e o).power = s.power ∧ (s.resolve e o).pins = s.pins
      ∧ (s.resolve e o).clock = s.clock ∧ (s.resolve e o).store = s.store ∧ (s.resolve e o).roster = s.roster
      ∧ (s.resolve e o).portals = s.portals ∧ (s.resolve e o).cars = s.cars
      ∧ (s.resolve e o).ticketCounter = s.ticketCounter ∧ (s.resolve e o).fire = s.fire
      ∧ (s.resolve e o).outs = s.outs ∧ (s.resolve e o).freeCount = s.freeCount := by
  simp [State.resolve]

@[simp] theorem State.resolveAll_frame (s : State) (es : List Referral) (o : EntryOutcome) :
    (s.resolveAll es o).pending = s.pending ∧ (s.resolveAll es o).power = s.power ∧ (s.resolveAll es o).pins = s.pins
      ∧ (s.resolveAll es o).clock = s.clock ∧ (s.resolveAll es o).store = s.store
      ∧ (s.resolveAll es o).roster = s.roster ∧ (s.resolveAll es o).portals = s.portals
      ∧ (s.resolveAll es o).cars = s.cars ∧ (s.resolveAll es o).ticketCounter = s.ticketCounter
      ∧ (s.resolveAll es o).fire = s.fire ∧ (s.resolveAll es o).outs = s.outs
      ∧ (s.resolveAll es o).freeCount = s.freeCount := by
  unfold State.resolveAll
  induction es generalizing s with
  | nil => simp
  | cons m ms ih => simpa using ih (s.resolve m o)

@[simp] theorem State.freeReferrals_frame (s : State) (p : Fin 16) :
    (s.freeReferrals p).pending = s.pending ∧ (s.freeReferrals p).power = s.power ∧ (s.freeReferrals p).pins = s.pins
      ∧ (s.freeReferrals p).clock = s.clock ∧ (s.freeReferrals p).store = s.store
      ∧ (s.freeReferrals p).roster = s.roster ∧ (s.freeReferrals p).portals = s.portals
      ∧ (s.freeReferrals p).cars = s.cars ∧ (s.freeReferrals p).ticketCounter = s.ticketCounter
      ∧ (s.freeReferrals p).fire = s.fire ∧ (s.freeReferrals p).outs = s.outs
      ∧ (s.freeReferrals p).freeCount = s.freeCount := by
  simp [State.freeReferrals]

@[simp] theorem State.cancelReferrals_frame (s : State) (id : Nat) :
    (s.cancelReferrals id).pending = s.pending ∧ (s.cancelReferrals id).power = s.power
      ∧ (s.cancelReferrals id).pins = s.pins ∧ (s.cancelReferrals id).clock = s.clock
      ∧ (s.cancelReferrals id).store = s.store ∧ (s.cancelReferrals id).roster = s.roster
      ∧ (s.cancelReferrals id).portals = s.portals ∧ (s.cancelReferrals id).cars = s.cars
      ∧ (s.cancelReferrals id).ticketCounter = s.ticketCounter ∧ (s.cancelReferrals id).fire = s.fire
      ∧ (s.cancelReferrals id).outs = s.outs ∧ (s.cancelReferrals id).freeCount = s.freeCount := by
  simp [State.cancelReferrals]

@[simp] theorem State.refer_frame (s : State) (p : Fin 16) (id tenancy : Nat) (reason : Reason) :
    (s.refer p id tenancy reason).pending = s.pending ∧ (s.refer p id tenancy reason).power = s.power
      ∧ (s.refer p id tenancy reason).pins = s.pins ∧ (s.refer p id tenancy reason).clock = s.clock
      ∧ (s.refer p id tenancy reason).store = s.store ∧ (s.refer p id tenancy reason).roster = s.roster
      ∧ (s.refer p id tenancy reason).portals = s.portals ∧ (s.refer p id tenancy reason).cars = s.cars
      ∧ (s.refer p id tenancy reason).fire = s.fire ∧ (s.refer p id tenancy reason).field = s.field
      ∧ (s.refer p id tenancy reason).outs = s.outs ∧ (s.refer p id tenancy reason).freeCount = s.freeCount := by
  simp [State.refer]

@[simp] theorem State.freePortal_frame (s : State) (p : Fin 16) :
    (s.freePortal p).pending = s.pending ∧ (s.freePortal p).power = s.power ∧ (s.freePortal p).pins = s.pins
      ∧ (s.freePortal p).clock = s.clock ∧ (s.freePortal p).store = s.store ∧ (s.freePortal p).roster = s.roster
      ∧ (s.freePortal p).cars = s.cars ∧ (s.freePortal p).ticketCounter = s.ticketCounter
      ∧ (s.freePortal p).fire = s.fire ∧ (s.freePortal p).outs = s.outs ∧ (s.freePortal p).freeCount = s.freeCount := by
  unfold State.freePortal
  simp only
  split <;> simp

@[simp] theorem State.leaveFree_frame (s : State) (p : Fin 16) :
    (s.leaveFree p).pending = s.pending ∧ (s.leaveFree p).power = s.power ∧ (s.leaveFree p).pins = s.pins
      ∧ (s.leaveFree p).clock = s.clock ∧ (s.leaveFree p).store = s.store ∧ (s.leaveFree p).roster = s.roster
      ∧ (s.leaveFree p).cars = s.cars ∧ (s.leaveFree p).referrals = s.referrals
      ∧ (s.leaveFree p).ticketCounter = s.ticketCounter ∧ (s.leaveFree p).fire = s.fire
      ∧ (s.leaveFree p).journal = s.journal ∧ (s.leaveFree p).office = s.office ∧ (s.leaveFree p).field = s.field
      ∧ (s.leaveFree p).outs = s.outs ∧ (s.leaveFree p).freeCount = s.freeCount := by
  unfold State.leaveFree
  repeat' split
  all_goals simp

@[simp] theorem State.enterMode_frame (s : State) (p : Fin 16) (m : Mode) :
    (s.enterMode p m).pending = s.pending ∧ (s.enterMode p m).power = s.power ∧ (s.enterMode p m).pins = s.pins
      ∧ (s.enterMode p m).clock = s.clock ∧ (s.enterMode p m).ticketCounter = s.ticketCounter
      ∧ (s.enterMode p m).fire = s.fire ∧ (s.enterMode p m).outs = s.outs ∧ (s.enterMode p m).freeCount = s.freeCount := by
  unfold State.enterMode
  simp only
  repeat' split
  all_goals simp

@[simp] theorem State.recomputeMode_frame (s : State) (p : Fin 16) :
    (s.recomputeMode p).pending = s.pending ∧ (s.recomputeMode p).power = s.power ∧ (s.recomputeMode p).pins = s.pins
      ∧ (s.recomputeMode p).clock = s.clock ∧ (s.recomputeMode p).ticketCounter = s.ticketCounter
      ∧ (s.recomputeMode p).fire = s.fire ∧ (s.recomputeMode p).outs = s.outs
      ∧ (s.recomputeMode p).freeCount = s.freeCount := by
  unfold State.recomputeMode
  repeat' split
  all_goals simp

@[simp] theorem State.portalBoundary_frame (s : State) (p : Fin 16) :
    (s.portalBoundary p).pending = s.pending ∧ (s.portalBoundary p).power = s.power
      ∧ (s.portalBoundary p).pins = s.pins ∧ (s.portalBoundary p).clock = s.clock
      ∧ (s.portalBoundary p).ticketCounter = s.ticketCounter ∧ (s.portalBoundary p).fire = s.fire
      ∧ (s.portalBoundary p).outs = s.outs ∧ (s.portalBoundary p).freeCount = s.freeCount := by
  simp [State.portalBoundary]

@[simp] theorem State.takeUpSensor_frame (s : State) (p : Fin 16) (old : PortalRec) :
    (s.takeUpSensor p old).pending = s.pending ∧ (s.takeUpSensor p old).power = s.power
      ∧ (s.takeUpSensor p old).pins = s.pins ∧ (s.takeUpSensor p old).clock = s.clock
      ∧ (s.takeUpSensor p old).store = s.store ∧ (s.takeUpSensor p old).roster = s.roster
      ∧ (s.takeUpSensor p old).cars = s.cars ∧ (s.takeUpSensor p old).referrals = s.referrals
      ∧ (s.takeUpSensor p old).ticketCounter = s.ticketCounter ∧ (s.takeUpSensor p old).fire = s.fire
      ∧ (s.takeUpSensor p old).outs = s.outs ∧ (s.takeUpSensor p old).freeCount = s.freeCount := by
  unfold State.takeUpSensor
  repeat' split
  all_goals simp

@[simp] theorem State.takeUpBeam_frame (s : State) (p : Fin 16) (old : PortalRec) :
    (s.takeUpBeam p old).pending = s.pending ∧ (s.takeUpBeam p old).power = s.power
      ∧ (s.takeUpBeam p old).pins = s.pins ∧ (s.takeUpBeam p old).clock = s.clock
      ∧ (s.takeUpBeam p old).store = s.store ∧ (s.takeUpBeam p old).roster = s.roster
      ∧ (s.takeUpBeam p old).cars = s.cars ∧ (s.takeUpBeam p old).referrals = s.referrals
      ∧ (s.takeUpBeam p old).ticketCounter = s.ticketCounter ∧ (s.takeUpBeam p old).fire = s.fire
      ∧ (s.takeUpBeam p old).journal = s.journal ∧ (s.takeUpBeam p old).office = s.office
      ∧ (s.takeUpBeam p old).field = s.field ∧ (s.takeUpBeam p old).outs = s.outs
      ∧ (s.takeUpBeam p old).freeCount = s.freeCount := by
  unfold State.takeUpBeam
  repeat' split
  all_goals simp

@[simp] theorem State.takeUpPortal_frame (s : State) (p : Fin 16) (old : PortalRec) :
    (s.takeUpPortal p old).pending = s.pending ∧ (s.takeUpPortal p old).power = s.power
      ∧ (s.takeUpPortal p old).pins = s.pins ∧ (s.takeUpPortal p old).clock = s.clock
      ∧ (s.takeUpPortal p old).ticketCounter = s.ticketCounter ∧ (s.takeUpPortal p old).fire = s.fire
      ∧ (s.takeUpPortal p old).outs = s.outs ∧ (s.takeUpPortal p old).freeCount = s.freeCount := by
  simp [State.takeUpPortal]

@[simp] theorem State.dropFromRoster_frame (s : State) (id : Nat) :
    (s.dropFromRoster id).pending = s.pending ∧ (s.dropFromRoster id).power = s.power
      ∧ (s.dropFromRoster id).pins = s.pins ∧ (s.dropFromRoster id).clock = s.clock
      ∧ (s.dropFromRoster id).store = s.store ∧ (s.dropFromRoster id).portals = s.portals
      ∧ (s.dropFromRoster id).referrals = s.referrals ∧ (s.dropFromRoster id).ticketCounter = s.ticketCounter
      ∧ (s.dropFromRoster id).fire = s.fire ∧ (s.dropFromRoster id).field = s.field
      ∧ (s.dropFromRoster id).outs = s.outs ∧ (s.dropFromRoster id).freeCount = s.freeCount := by
  unfold State.dropFromRoster State.noteDropped
  split <;> simp

@[simp] theorem State.releaseFromCar_frame (s : State) (id : Nat) :
    (s.releaseFromCar id).pending = s.pending ∧ (s.releaseFromCar id).power = s.power
      ∧ (s.releaseFromCar id).pins = s.pins ∧ (s.releaseFromCar id).clock = s.clock
      ∧ (s.releaseFromCar id).store = s.store ∧ (s.releaseFromCar id).portals = s.portals
      ∧ (s.releaseFromCar id).cars = s.cars ∧ (s.releaseFromCar id).referrals = s.referrals
      ∧ (s.releaseFromCar id).ticketCounter = s.ticketCounter ∧ (s.releaseFromCar id).fire = s.fire
      ∧ (s.releaseFromCar id).journal = s.journal ∧ (s.releaseFromCar id).office = s.office
      ∧ (s.releaseFromCar id).field = s.field ∧ (s.releaseFromCar id).outs = s.outs
      ∧ (s.releaseFromCar id).freeCount = s.freeCount := by
  simp [State.releaseFromCar]

@[simp] theorem alight_frame (z : Nat) (s : State) (q : Passenger) :
    (alight z s q).pending = s.pending ∧ (alight z s q).power = s.power ∧ (alight z s q).pins = s.pins
      ∧ (alight z s q).clock = s.clock ∧ (alight z s q).store = s.store ∧ (alight z s q).portals = s.portals
      ∧ (alight z s q).cars = s.cars ∧ (alight z s q).referrals = s.referrals
      ∧ (alight z s q).ticketCounter = s.ticketCounter ∧ (alight z s q).fire = s.fire
      ∧ (alight z s q).journal = s.journal ∧ (alight z s q).office = s.office ∧ (alight z s q).field = s.field
      ∧ (alight z s q).outs = s.outs ∧ (alight z s q).freeCount = s.freeCount := by
  unfold alight
  simp only
  split <;> simp

@[simp] theorem State.arrive_frame (s : State) (c : Fin 4) (n : Nat) :
    (s.arrive c n).pending = s.pending ∧ (s.arrive c n).power = s.power ∧ (s.arrive c n).pins = s.pins
      ∧ (s.arrive c n).clock = s.clock ∧ (s.arrive c n).store = s.store ∧ (s.arrive c n).portals = s.portals
      ∧ (s.arrive c n).referrals = s.referrals ∧ (s.arrive c n).ticketCounter = s.ticketCounter
      ∧ (s.arrive c n).fire = s.fire ∧ (s.arrive c n).journal = s.journal ∧ (s.arrive c n).office = s.office
      ∧ (s.arrive c n).field = s.field ∧ (s.arrive c n).outs = s.outs ∧ (s.arrive c n).freeCount = s.freeCount := by
  unfold State.arrive
  simp only [State.modCar_pending, State.modCar_power, State.modCar_pins, State.modCar_clock, State.modCar_store,
    State.modCar_portals, State.modCar_referrals, State.modCar_ticketCounter, State.modCar_fire, State.modCar_journal,
    State.modCar_office, State.modCar_field, State.modCar_outs, State.modCar_freeCount]
  generalize s.cars[c].passengers.filter (fun q => q.landings.getLsbD n) = l
  generalize (s.carRec c).zones.getD n 0 = z
  induction l generalizing s with
  | nil => simp
  | cons q l ih => simpa using ih (alight z s q)

@[simp] theorem State.expireSession_frame (s : State) (c : Fin 4) :
    (s.expireSession c).pending = s.pending ∧ (s.expireSession c).power = s.power ∧ (s.expireSession c).pins = s.pins
      ∧ (s.expireSession c).clock = s.clock ∧ (s.expireSession c).store = s.store
      ∧ (s.expireSession c).portals = s.portals ∧ (s.expireSession c).referrals = s.referrals
      ∧ (s.expireSession c).ticketCounter = s.ticketCounter ∧ (s.expireSession c).fire = s.fire
      ∧ (s.expireSession c).field = s.field ∧ (s.expireSession c).outs = s.outs
      ∧ (s.expireSession c).freeCount = s.freeCount := by
  unfold State.expireSession
  simp only
  generalize some s.cars[c].passengers.length = k
  generalize s.cars[c].passengers = l
  induction l generalizing s with
  | nil => simp
  | cons q l ih => simpa using ih (s.releaseFromCar q.id)

@[simp] theorem State.markAll_frame (s : State) :
    (s.markAll).pending = s.pending ∧ (s.markAll).power = s.power ∧ (s.markAll).pins = s.pins
      ∧ (s.markAll).clock = s.clock ∧ (s.markAll).store = s.store ∧ (s.markAll).portals = s.portals
      ∧ (s.markAll).cars = s.cars ∧ (s.markAll).referrals = s.referrals ∧ (s.markAll).ticketCounter = s.ticketCounter
      ∧ (s.markAll).fire = s.fire ∧ (s.markAll).journal = s.journal ∧ (s.markAll).office = s.office
      ∧ (s.markAll).field = s.field ∧ (s.markAll).outs = s.outs ∧ (s.markAll).freeCount = s.freeCount := by
  simp [State.markAll]

@[simp] theorem State.noteFireOn_frame (s : State) :
    (s.noteFireOn).pending = s.pending ∧ (s.noteFireOn).power = s.power ∧ (s.noteFireOn).pins = s.pins
      ∧ (s.noteFireOn).clock = s.clock ∧ (s.noteFireOn).store = s.store ∧ (s.noteFireOn).roster = s.roster
      ∧ (s.noteFireOn).portals = s.portals ∧ (s.noteFireOn).cars = s.cars ∧ (s.noteFireOn).referrals = s.referrals
      ∧ (s.noteFireOn).ticketCounter = s.ticketCounter ∧ (s.noteFireOn).fire = s.fire ∧ (s.noteFireOn).outs = s.outs
      ∧ (s.noteFireOn).freeCount = s.freeCount := by
  simp [State.noteFireOn]

@[simp] theorem State.setLatch_frame (s : State) :
    (s.setLatch).pending = s.pending ∧ (s.setLatch).power = s.power ∧ (s.setLatch).pins = s.pins
      ∧ (s.setLatch).clock = s.clock ∧ (s.setLatch).store = s.store ∧ (s.setLatch).roster = s.roster
      ∧ (s.setLatch).portals = s.portals ∧ (s.setLatch).cars = s.cars ∧ (s.setLatch).referrals = s.referrals
      ∧ (s.setLatch).ticketCounter = s.ticketCounter ∧ (s.setLatch).outs = s.outs
      ∧ (s.setLatch).freeCount = s.freeCount := by
  simp [State.setLatch]

@[simp] theorem State.takeClear_frame (s : State) (p : Fin 16) :
    (s.takeClear p).pending = s.pending ∧ (s.takeClear p).power = s.power ∧ (s.takeClear p).pins = s.pins
      ∧ (s.takeClear p).clock = s.clock ∧ (s.takeClear p).ticketCounter = s.ticketCounter
      ∧ (s.takeClear p).fire = s.fire ∧ (s.takeClear p).outs = s.outs ∧ (s.takeClear p).freeCount = s.freeCount := by
  simp [State.takeClear]

@[simp] theorem State.endDiscarding_frame (s : State) (p : Port) :
    (s.endDiscarding p).pending = s.pending ∧ (s.endDiscarding p).power = s.power ∧ (s.endDiscarding p).pins = s.pins
      ∧ (s.endDiscarding p).clock = s.clock ∧ (s.endDiscarding p).store = s.store
      ∧ (s.endDiscarding p).roster = s.roster ∧ (s.endDiscarding p).portals = s.portals
      ∧ (s.endDiscarding p).cars = s.cars ∧ (s.endDiscarding p).referrals = s.referrals
      ∧ (s.endDiscarding p).ticketCounter = s.ticketCounter ∧ (s.endDiscarding p).fire = s.fire
      ∧ (s.endDiscarding p).journal = s.journal ∧ (s.endDiscarding p).outs = s.outs
      ∧ (s.endDiscarding p).freeCount = s.freeCount := by
  unfold State.endDiscarding
  repeat' split
  all_goals simp

@[simp] theorem State.abandonFrame_frame (s : State) (p : Port) :
    (s.abandonFrame p).pending = s.pending ∧ (s.abandonFrame p).power = s.power ∧ (s.abandonFrame p).pins = s.pins
      ∧ (s.abandonFrame p).clock = s.clock ∧ (s.abandonFrame p).store = s.store ∧ (s.abandonFrame p).roster = s.roster
      ∧ (s.abandonFrame p).portals = s.portals ∧ (s.abandonFrame p).cars = s.cars
      ∧ (s.abandonFrame p).referrals = s.referrals ∧ (s.abandonFrame p).ticketCounter = s.ticketCounter
      ∧ (s.abandonFrame p).fire = s.fire ∧ (s.abandonFrame p).journal = s.journal ∧ (s.abandonFrame p).outs = s.outs
      ∧ (s.abandonFrame p).freeCount = s.freeCount := by
  simp [State.abandonFrame]

@[simp] theorem State.rearm_frame (s : State) (p : Fin 16) :
    (s.rearm p).pending = s.pending ∧ (s.rearm p).power = s.power ∧ (s.rearm p).pins = s.pins
      ∧ (s.rearm p).clock = s.clock ∧ (s.rearm p).store = s.store ∧ (s.rearm p).roster = s.roster
      ∧ (s.rearm p).cars = s.cars ∧ (s.rearm p).referrals = s.referrals ∧ (s.rearm p).ticketCounter = s.ticketCounter
      ∧ (s.rearm p).fire = s.fire ∧ (s.rearm p).journal = s.journal ∧ (s.rearm p).office = s.office
      ∧ (s.rearm p).field = s.field ∧ (s.rearm p).outs = s.outs ∧ (s.rearm p).freeCount = s.freeCount := by
  simp [State.rearm]

@[simp] theorem State.interrupt_frame (s : State) (p : Fin 16) :
    (s.interrupt p).pending = s.pending ∧ (s.interrupt p).power = s.power ∧ (s.interrupt p).pins = s.pins
      ∧ (s.interrupt p).clock = s.clock ∧ (s.interrupt p).store = s.store ∧ (s.interrupt p).roster = s.roster
      ∧ (s.interrupt p).cars = s.cars ∧ (s.interrupt p).referrals = s.referrals
      ∧ (s.interrupt p).ticketCounter = s.ticketCounter ∧ (s.interrupt p).fire = s.fire
      ∧ (s.interrupt p).journal = s.journal ∧ (s.interrupt p).office = s.office ∧ (s.interrupt p).field = s.field
      ∧ (s.interrupt p).outs = s.outs ∧ (s.interrupt p).freeCount = s.freeCount := by
  simp [State.interrupt]

@[simp] theorem State.exitReleased_frame (s : State) (p : Fin 16) :
    (s.exitReleased p).pending = s.pending ∧ (s.exitReleased p).power = s.power ∧ (s.exitReleased p).pins = s.pins
      ∧ (s.exitReleased p).clock = s.clock ∧ (s.exitReleased p).store = s.store ∧ (s.exitReleased p).roster = s.roster
      ∧ (s.exitReleased p).cars = s.cars ∧ (s.exitReleased p).referrals = s.referrals
      ∧ (s.exitReleased p).ticketCounter = s.ticketCounter ∧ (s.exitReleased p).fire = s.fire
      ∧ (s.exitReleased p).journal = s.journal ∧ (s.exitReleased p).office = s.office
      ∧ (s.exitReleased p).field = s.field ∧ (s.exitReleased p).outs = s.outs
      ∧ (s.exitReleased p).freeCount = s.freeCount := by
  simp [State.exitReleased]

@[simp] theorem State.recheck_frame (s : State) (e : Referral) :
    (s.recheck e).1.pending = s.pending ∧ (s.recheck e).1.power = s.power ∧ (s.recheck e).1.pins = s.pins
      ∧ (s.recheck e).1.clock = s.clock ∧ (s.recheck e).1.referrals = s.referrals
      ∧ (s.recheck e).1.ticketCounter = s.ticketCounter ∧ (s.recheck e).1.fire = s.fire
      ∧ (s.recheck e).1.journal = s.journal ∧ (s.recheck e).1.office = s.office ∧ (s.recheck e).1.field = s.field
      ∧ (s.recheck e).1.outs = s.outs ∧ (s.recheck e).1.freeCount = s.freeCount := by
  unfold State.recheck
  repeat' split
  all_goals simp

end Sys2Proof.Machine
end

