-- ==== Sys2Proof/Laws/Ops.lean ====
section
/-! SUPPORT. Ops: for each operation that requests and events share, what it can do, said once; and which portal or car an
operation leaves alone. -/

namespace Sys2Proof.Machine

/-! ## Outcomes, requests and puts -/

/-- An event ends in a next state, the one state it leaves with its output pins driven. -/
theorem done_eq {s t : State} : done s = .next t ↔ t = s.drive := by
  simp [done, eq_comm]

/-- A request on a port that acknowledges is performed by its owner, and the port holds the reply. -/
theorem request_performed {p : Port} {s : State} (owner : State → State × Reply) (h : s.acknowledges p = true) :
    request p s owner = (owner (s.endFrame p)).1.holdReply p (owner (s.endFrame p)).2 := by
  simp [request, h]

/-- A request on a port that does not acknowledge does nothing. -/
theorem request_unheard {p : Port} {s : State} (owner : State → State × Reply) (h : s.acknowledges p = false) :
    request p s owner = s := by
  simp [request, h]

/-- A request whose owner leaves the state as it is writes its reply on its port, and nothing else. -/
theorem request_reads {p : Port} {s : State} {owner : State → State × Reply} {r : Reply}
    (h : s.acknowledges p = true) (ho : owner (s.endFrame p) = (s.endFrame p, r)) :
    request p s owner = s.modPort p (fun q => { q with frame := .idle, buffer := [], timer := none, reply := some r }) := by
  rw [request_performed owner h, ho]
  cases p <;> rfl

/-- A put or drop that its checks refuse is answered and changes nothing else. -/
theorem takePut_refused {check : State → Except ResultCode (List SlotWrite)} {s : State} {r : ResultCode}
    (h : s.acknowledges .office = true) (hw : s.pins.straps.storeWp = false) (hc : check s = .error r) :
    takePut check s = (s.endFrame .office).holdReply .office (Reply.refusal r) := by
  simp [takePut, h, hw, hc]

/-- A put or drop that its checks take is handed to the Store and keeps the Office Port busy. -/
theorem takePut_taken {check : State → Except ResultCode (List SlotWrite)} {s : State} {writes : List SlotWrite}
    (h : s.acknowledges .office = true) (hw : s.pins.straps.storeWp = false) (hc : check s = .ok writes) :
    takePut check s =
      { s.endFrame .office with
        store := s.store.takeRequest writes, office := { (s.endFrame .office).office with busy := true } } := by
  simp [takePut, h, hw, hc]

/-- While STORE_WP is asserted no put or drop is checked. -/
theorem takePut_protected {check : State → Except ResultCode (List SlotWrite)} {s : State}
    (h : s.acknowledges .office = true) (hw : s.pins.straps.storeWp = true) :
    takePut check s = (s.endFrame .office).holdReply .office (Reply.refusal .writeProtected) := by
  simp [takePut, h, hw]

/-! ## Timed events -/

/-- A timed event whose moment is the current tick acts. -/
theorem timed_due {due : State → Bool} {act : State → State} {s : State} (h : due s = true) :
    timed due act s = act s := by
  simp [timed, h]

/-- A timed event acts at the current tick, or opens the boundary of the tick to come and acts there, or leaves the state
as it is. -/
theorem timed_cases (due : State → Bool) (act : State → State) (s : State) :
    (due s = true ∧ timed due act s = act s)
      ∨ (s.clock.endsMinute = true ∧ due s.openBoundary = true ∧ timed due act s = act s.openBoundary)
      ∨ timed due act s = s := by
  unfold timed
  repeat' split
  · exact .inl ⟨by assumption, rfl⟩
  · rename_i h
    simp only [Bool.and_eq_true] at h
    exact .inr (.inl ⟨h.1, h.2, rfl⟩)
  · exact .inr (.inr rfl)

/-- What an action keeps, settling it keeps. -/
theorem settle_keeps {P : State → Prop} {due : State → Bool} {act : State → State} {s : State} (h : P s)
    (ha : due s = true → P (act s)) : P (settle due act s) := by
  unfold settle
  split
  · exact ha (by assumption)
  · exact h

/-- What every step of a fold keeps, the fold keeps. -/
theorem foldl_invariant {α : Type} {P : State → Prop} {f : State → α → State} (hf : ∀ s a, P s → P (f s a))
    (l : List α) {s : State} (h : P s) : P (l.foldl f s) := by
  induction l generalizing s with
  | nil => exact h
  | cons a l ih => exact ih (hf s a h)

/-! ## The journal -/

/-- The journal after an append. -/
theorem State.append_journal (s : State) (r : Record) :
    (s.append r).journal = if s.journal.length < 512 then s.journal ++ [r] else markGap (s.journal.drop 1) ++ [r] := by
  unfold State.append Config.journalCapacity
  repeat' split
  all_goals rfl

/-- The record appended is the last of the journal. -/
@[simp] theorem State.append_getLast? (s : State) (r : Record) : (s.append r).journal.getLast? = some r := by
  rw [State.append_journal]
  split <;> simp

/-- A gap mark changes no length. -/
@[simp] theorem markGap_length (l : List Record) : (markGap l).length = l.length := by
  cases l <;> rfl

/-! ## Reads of a running timer -/

/-- While the expiry lies ahead, a read reports the ticks to it. -/
theorem ticksLeft_ahead {most now expiry : Nat} (h : now < expiry) : ticksLeft most now expiry = expiry - now := by
  simp [ticksLeft, h]

/-- What a read reports of a running timer lies from 1 to the most its rule gives. -/
theorem ticksLeft_range {most now expiry : Nat} (hm : 0 < most) (h : expiry ≤ now + most) :
    1 ≤ ticksLeft most now expiry ∧ ticksLeft most now expiry ≤ most := by
  unfold ticksLeft
  split
  · omega
  · have := Nat.mod_lt (Config.ticksLeftAtExpiry expiry) hm
    omega

/-! ## The supplies of the clock domain -/

/-- With a supply the clock domain goes on as it was. -/
theorem State.supplyClock_held {s : State} (h : s.power.main = true ∨ s.pins.straps.vbat = true) : s.supplyClock = s := by
  unfold State.supplyClock
  rcases h with h | h <;> simp [h]

/-- With neither supply the clock domain loses its time, its state and its mark, and nothing else changes. -/
theorem State.supplyClock_lost {s : State} (hm : s.power.main = false) (hv : s.pins.straps.vbat = false) :
    s.supplyClock = { s with clock := s.clock.lose } := by
  simp [State.supplyClock, hm, hv]

/-- Every field but the clock is left by the supply of the clock domain. -/
@[simp] theorem State.supplyClock_frame (s : State) :
    s.supplyClock.pending = s.pending ∧ s.supplyClock.power = s.power ∧ s.supplyClock.pins = s.pins
      ∧ s.supplyClock.store = s.store ∧ s.supplyClock.roster = s.roster ∧ s.supplyClock.portals = s.portals
      ∧ s.supplyClock.cars = s.cars ∧ s.supplyClock.referrals = s.referrals
      ∧ s.supplyClock.ticketCounter = s.ticketCounter ∧ s.supplyClock.fire = s.fire
      ∧ s.supplyClock.journal = s.journal ∧ s.supplyClock.office = s.office ∧ s.supplyClock.field = s.field
      ∧ s.supplyClock.outs = s.outs ∧ s.supplyClock.freeCount = s.freeCount := by
  unfold State.supplyClock
  split <;> simp

/-! ## Other portals and cars -/

/-- Changing one portal leaves every other, written with the portal's number as simplification leaves it. -/
theorem State.modPortal_val_other (s : State) (p q : Fin 16) (f : Portal → Portal) (h : q ≠ p) :
    (s.modPortal p f).portals[q.val] = s.portals[q.val] :=
  State.modPortal_other s p q f h.symm

/-- A lapse leaves every other portal. -/
theorem State.lapse_other (s : State) (p q : Fin 16) (h : q ≠ p) : (s.lapse p).portals[q] = s.portals[q] := by
  unfold State.lapse
  simp only
  split <;> simp [State.modPortal_val_other, h]

/-- A grant leaves every other portal. -/
theorem State.grantMove_other (s : State) (p q : Fin 16) (m : Move) (h : q ≠ p) :
    (s.grantMove p m).portals[q] = s.portals[q] := by
  unfold State.grantMove State.presetUnlock
  split <;> simp [State.modPortal_val_other, h]

/-- The leaf opening leaves every other portal. -/
theorem State.leafOpened_other (s : State) (p q : Fin 16) (h : q ≠ p) :
    (s.leafOpened p).portals[q] = s.portals[q] := by
  unfold State.leafOpened
  simp only
  repeat' split
  all_goals simp [State.modPortal_val_other, h]

/-- The end of a cycle by closing leaves every other portal. -/
theorem State.closeLeaf_other (s : State) (p q : Fin 16) (h : q ≠ p) :
    (s.closeLeaf p).portals[q] = s.portals[q] := by
  unfold State.closeLeaf
  simp only
  repeat' split
  all_goals simp [State.modPortal_val_other, h]

/-- A new effective mode leaves every other portal. -/
theorem State.enterMode_other (s : State) (p q : Fin 16) (m : Mode) (h : q ≠ p) :
    (s.enterMode p m).portals[q] = s.portals[q] := by
  unfold State.enterMode
  simp only
  repeat' split
  · unfold State.freePortal
    simp only
    split <;> simp [State.modPortal_val_other, h]
  · unfold State.leaveFree
    split <;> simp [State.modPortal_val_other, h]
  · rw [State.lapse_other _ _ _ h]
    simp [State.modPortal_val_other, h]
  · simp [State.modPortal_val_other, h]

/-- A recomputation of the effective mode leaves every other portal. -/
theorem State.recomputeMode_other (s : State) (p q : Fin 16) (h : q ≠ p) :
    (s.recomputeMode p).portals[q] = s.portals[q] := by
  unfold State.recomputeMode
  split
  · rfl
  · exact State.enterMode_other s p q _ h

end Sys2Proof.Machine
end

