-- ==== Sys2Proof/Laws/PerInstr.lean ====
section
/-! SUPPORT. PerInstr: the family Wire, one lemma for each command: exactly the commands that have a port are requests,
and the write frame of a well-formed request fits the frame buffer and sums to 0 (R172, R173, R176). -/

namespace Sys2Proof.Laws.Wire

open Sys2Proof.Machine

/-- What the family says of a command as syntax: it travels in a frame exactly if it has a port, and its frame, where it is
well formed, fits the 63 bytes of the frame buffer and sums to 0. -/
def Statement (i : Instr) : Prop :=
  (requestFrame i).isSome = (requestPort i).isSome
    ∧ ∀ f, i.wf = true → requestFrame i = some f → f.length ≤ Config.frameBufferCapacity ∧ sumOf f = 0

/-! ## Lengths and sums -/

/-- The sum of two runs of bytes. -/
theorem sumOf_append (a b : List Byte) : sumOf (a ++ b) = sumOf a + sumOf b := by
  induction a with
  | nil => simp [sumOf]
  | cons x a ih => simp [sumOf, ih, BitVec.add_assoc]

/-- Bytes with their check byte sum to 0. -/
theorem sumOf_withCheck (l : List Byte) : sumOf (withCheck l) = 0 := by
  simp [withCheck, sumOf_append, sumOf]

theorem frameOf_length (code : Nat) (l : List Byte) : (frameOf code l).length = l.length + 3 := by
  simp [frameOf, withCheck]

theorem byte2s_length (l : List Nat) : (byte2s l).length = 2 * l.length := by
  induction l with
  | nil => rfl
  | cons n l ih =>
    simp only [byte2s, List.flatMap_cons, List.length_append, List.length_cons] at *
    simp only [byte2, List.length_cons, List.length_nil]
    omega

theorem byte1s_length (l : List Nat) : (byte1s l).length = l.length := by
  induction l with
  | nil => rfl
  | cons n l ih => simp [byte1s, byte1] at ih ⊢

theorem windowBytes_length (l : List WindowOperand) : (l.flatMap windowOperandBytes).length = 5 * l.length := by
  induction l with
  | nil => rfl
  | cons w l ih =>
    simp only [List.flatMap_cons, List.length_append, List.length_cons, ih]
    simp only [windowOperandBytes, byte2, List.length_append, List.length_cons, List.length_nil]
    omega

theorem presentBytes_byte1_length (x : Option Nat) : (presentBytes byte1 x).length ≤ 1 := by
  cases x <;> simp [presentBytes, byte1]

theorem presentBytes_byte2_length (x : Option Nat) : (presentBytes byte2 x).length ≤ 2 := by
  cases x <;> simp [presentBytes, byte2]

theorem keyBytes_length (n key : Nat) : (keyBytes n key).length ≤ 4 := by
  unfold keyBytes
  split <;> simp [byte1, byte2, byte4]

/-- A request whose operands take at most 60 bytes where it is well formed. -/
theorem wire_of {i : Instr} {code : Nat} {l : List Byte} (hb : requestBytes i = some (code, l))
    (hp : (requestPort i).isSome = true) (hl : i.wf = true → l.length ≤ 60) : Statement i := by
  constructor
  · simp [requestFrame, hb, hp]
  · intro f hw hf
    simp only [requestFrame, hb, Option.map_some, Option.some.injEq] at hf
    subst hf
    refine ⟨?_, sumOf_withCheck _⟩
    have := hl hw
    simp only [frameOf_length, Config.frameBufferCapacity]
    omega

/-- A command that is no request. -/
theorem wire_none {i : Instr} (hb : requestBytes i = none) (hp : requestPort i = none) : Statement i := by
  constructor
  · simp [requestFrame, hb, hp]
  · intro f _ hf
    simp [requestFrame, hb] at hf

/-! ## One lemma for each command -/

theorem powerOn : Statement .powerOn := wire_none rfl rfl

theorem mainPowerLoss : Statement .mainPowerLoss := wire_none rfl rfl

theorem vbatLoss : Statement .vbatLoss := wire_none rfl rfl

theorem resetAssert : Statement .resetAssert := wire_none rfl rfl

theorem resetNegate : Statement .resetNegate := wire_none rfl rfl

theorem restoreComplete : Statement .restoreComplete := wire_none rfl rfl

theorem minuteBoundary : Statement .minuteBoundary := wire_none rfl rfl

theorem present (reader : Nat) (id : Nat) : Statement (.present reader id) :=
  wire_of rfl rfl (fun _ => Nat.le_of_ble_eq_true rfl)

theorem withdraw (ticket : Nat) : Statement (.withdraw ticket) := wire_of rfl rfl (fun _ => Nat.le_of_ble_eq_true rfl)

theorem takeOutcome (ticket : Nat) : Statement (.takeOutcome ticket) :=
  wire_of rfl rfl (fun _ => Nat.le_of_ble_eq_true rfl)

theorem carArrival (car : Nat) (landing : Nat) : Statement (.carArrival car landing) :=
  wire_of rfl rfl (fun _ => Nat.le_of_ble_eq_true rfl)

theorem putUnit (unit : Nat) (zone : Nat) (state : Nat) : Statement (.putUnit unit zone state) :=
  wire_of rfl rfl (fun _ => Nat.le_of_ble_eq_true rfl)

theorem putTenancy (tenancy state profile : Nat) (units : List Nat) : Statement (.putTenancy tenancy state profile units) :=
  wire_of rfl rfl (by
    intro h
    simp only [Instr.wf, Bool.and_eq_true, decide_eq_true_eq] at h
    have := h.2
    simp [byte1, byte2, byte2s_length]
    omega)

theorem dropTenancy (tenancy : Nat) : Statement (.dropTenancy tenancy) :=
  wire_of rfl rfl (fun _ => Nat.le_of_ble_eq_true rfl)

theorem putCredential (o : CredentialOperands) : Statement (.putCredential o) :=
  wire_of rfl rfl (by
    intro _
    simp only [credentialOperandBytes, List.length_append, byte4, byte1, List.length_cons, List.length_nil]
    have h1 := presentBytes_byte2_length o.tenancy
    have h2 := presentBytes_byte2_length o.expiry
    have h3 := presentBytes_byte1_length o.budget
    have h4 := presentBytes_byte1_length o.staffProfile
    have h5 := presentBytes_byte2_length (o.staffZones.map BitVec.toNat)
    omega)

theorem dropCredential (id : Nat) : Statement (.dropCredential id) :=
  wire_of rfl rfl (fun _ => Nat.le_of_ble_eq_true rfl)

theorem putProfile (profile : Nat) (windows : List WindowOperand) (common : Set16) (grace : Nat) : Statement (.putProfile profile windows common grace) :=
  wire_of rfl rfl (by
    intro h
    simp only [Instr.wf, Bool.and_eq_true, decide_eq_true_eq] at h
    have := h.2
    simp only [List.length_append, windowBytes_length, byte1, byte2, bytesOfSet, List.length_cons, List.length_nil]
    omega)

theorem putHolidays (days : List Nat) : Statement (.putHolidays days) :=
  wire_of rfl rfl (by
    intro h
    simp only [Instr.wf, Bool.and_eq_true, decide_eq_true_eq] at h
    have := h.2
    simp [byte1, byte2s_length]
    omega)

theorem putPortal (portal : Nat) (o : PortalOperands) : Statement (.putPortal portal o) :=
  wire_of rfl rfl (fun _ => Nat.le_of_ble_eq_true rfl)

theorem putCar (car : Nat) (o : CarOperands) : Statement (.putCar car o) :=
  wire_of rfl rfl (by
    intro h
    simp only [Instr.wf, CarOperands.wf, Bool.and_eq_true, decide_eq_true_eq] at h
    have := h.2.2
    simp [byte1, carOperandBytes, byte1s_length]
    omega)

theorem putSite (limit : Nat) : Statement (.putSite limit) := wire_of rfl rfl (fun _ => Nat.le_of_ble_eq_true rfl)

theorem slotVerified (agrees : Bool) : Statement (.slotVerified agrees) := wire_none rfl rfl

theorem budgetWriteBack : Statement .budgetWriteBack := wire_none rfl rfl

theorem setClock (day : Nat) (minute : Nat) (second : Nat) : Statement (.setClock day minute second) :=
  wire_of rfl rfl (fun _ => Nat.le_of_ble_eq_true rfl)

theorem holdMode (portal : Nat) (mode : Nat) : Statement (.holdMode portal mode) :=
  wire_of rfl rfl (fun _ => Nat.le_of_ble_eq_true rfl)

theorem releaseHold (portal : Nat) : Statement (.releaseHold portal) :=
  wire_of rfl rfl (fun _ => Nat.le_of_ble_eq_true rfl)

theorem answerReferral (ticket : Nat) (id : Nat) (verdict : Nat) : Statement (.answerReferral ticket id verdict) :=
  wire_of rfl rfl (fun _ => Nat.le_of_ble_eq_true rfl)

theorem listReferrals : Statement .listReferrals := wire_of rfl rfl (fun _ => Nat.le_of_ble_eq_true rfl)

theorem takeJournal (n : Nat) : Statement (.takeJournal n) := wire_of rfl rfl (fun _ => Nat.le_of_ble_eq_true rfl)

theorem readRoster (start : Nat) : Statement (.readRoster start) :=
  wire_of rfl rfl (fun _ => Nat.le_of_ble_eq_true rfl)

theorem dropRosterEntry (id : Nat) : Statement (.dropRosterEntry id) :=
  wire_of rfl rfl (fun _ => Nat.le_of_ble_eq_true rfl)

theorem clearRoster : Statement .clearRoster := wire_of rfl rfl (fun _ => Nat.le_of_ble_eq_true rfl)

theorem readRecord (p : Port) (kind key : Nat) : Statement (.readRecord p kind key) :=
  wire_of rfl rfl (by
    intro _
    have := keyBytes_length (((recordKind? kind).map RecordKind.keyLength).getD 0) key
    simp only [List.length_append, byte1, List.length_cons, List.length_nil]
    omega)

theorem readPortal (p : Port) (portal : Nat) : Statement (.readPortal p portal) :=
  wire_of rfl rfl (fun _ => Nat.le_of_ble_eq_true rfl)

theorem readCar (p : Port) (car : Nat) : Statement (.readCar p car) :=
  wire_of rfl rfl (fun _ => Nat.le_of_ble_eq_true rfl)

theorem readStatus (p : Port) : Statement (.readStatus p) := wire_of rfl rfl (fun _ => Nat.le_of_ble_eq_true rfl)

theorem readEvents (p : Port) : Statement (.readEvents p) := wire_of rfl rfl (fun _ => Nat.le_of_ble_eq_true rfl)

theorem clearEvents (p : Port) (flags : Set16) : Statement (.clearEvents p flags) :=
  wire_of rfl rfl (fun _ => Nat.le_of_ble_eq_true rfl)

theorem setEventMask (p : Port) (mask : Set16) : Statement (.setEventMask p mask) :=
  wire_of rfl rfl (fun _ => Nat.le_of_ble_eq_true rfl)

theorem writeFrame (port : Port) (bytes : List Byte) : Statement (.writeFrame port bytes) := wire_none rfl rfl

theorem readFrame (port : Port) (count : Nat) (ended : Bool) : Statement (.readFrame port count ended) :=
  wire_none rfl rfl

theorem frameTimeout (port : Port) : Statement (.frameTimeout port) := wire_none rfl rfl

theorem leafLineChange (portal : Fin 16) (asserted : Bool) : Statement (.leafLineChange portal asserted) :=
  wire_none rfl rfl

theorem leafOpenRecognized (portal : Fin 16) : Statement (.leafOpenRecognized portal) := wire_none rfl rfl

theorem leafClosedRecognized (portal : Fin 16) : Statement (.leafClosedRecognized portal) := wire_none rfl rfl

theorem exitLineChange (portal : Fin 16) (asserted : Bool) : Statement (.exitLineChange portal asserted) :=
  wire_none rfl rfl

theorem exitPress (portal : Fin 16) : Statement (.exitPress portal) := wire_none rfl rfl

theorem exitReleaseRecognized (portal : Fin 16) : Statement (.exitReleaseRecognized portal) := wire_none rfl rfl

theorem unlockExpiry (portal : Fin 16) : Statement (.unlockExpiry portal) := wire_none rfl rfl

theorem heldTimerExpiry (portal : Fin 16) : Statement (.heldTimerExpiry portal) := wire_none rfl rfl

theorem beamBreak (portal : Fin 16) : Statement (.beamBreak portal) := wire_none rfl rfl

theorem beamClear (portal : Fin 16) : Statement (.beamClear portal) := wire_none rfl rfl

theorem qualifyingInterruption (portal : Fin 16) : Statement (.qualifyingInterruption portal) := wire_none rfl rfl

theorem beamRearmExpiry (portal : Fin 16) : Statement (.beamRearmExpiry portal) := wire_none rfl rfl

theorem referralDeadline (ticket : Nat) : Statement (.referralDeadline ticket) := wire_none rfl rfl

theorem sessionTimerExpiry (car : Fin 4) : Statement (.sessionTimerExpiry car) := wire_none rfl rfl

theorem fireInChange (high : Bool) : Statement (.fireInChange high) := wire_none rfl rfl

theorem fireOnset : Statement .fireOnset := wire_none rfl rfl

theorem fireClear : Statement .fireClear := wire_none rfl rfl

theorem fireClearRecomputation (portal : Fin 16) : Statement (.fireClearRecomputation portal) := wire_none rfl rfl

theorem tamperLineChange (asserted : Bool) : Statement (.tamperLineChange asserted) := wire_none rfl rfl

theorem tamperLatchSet : Statement .tamperLatchSet := wire_none rfl rfl

theorem tick (straps : Option Straps) : Statement (.tick straps) := wire_none rfl rfl

theorem frameStart (port : Port) (address : Nat) : Statement (.frameStart port address) := wire_none rfl rfl

theorem discardingEnd (port : Port) : Statement (.discardingEnd port) := wire_none rfl rfl

end Sys2Proof.Laws.Wire
end

