-- ==== Sys2Proof/Laws/Table.lean ====
section
/-! SUPPORT. Tables: every operation on a table keeps its canonical form, and reading after an operation gives what was
put or what was there. -/

namespace Sys2Proof.Machine

/-! ## Reading -/

/-- Reading a number after it was put gives what was put. -/
theorem findEntry_putEntry_same {α : Type} (l : List (Nat × α)) (n : Nat) (x : α) :
    findEntry (putEntry l n x) n = some x := by
  induction l with
  | nil => simp [putEntry, findEntry]
  | cons e l ih =>
    obtain ⟨k, y⟩ := e
    simp only [putEntry]
    split
    · simp [findEntry]
    · split
      · simp [findEntry]
      · rename_i h
        have : k ≠ n := fun e => h e.symm
        simp [findEntry, this, ih]

/-- Reading another number gives what was there. -/
theorem findEntry_putEntry_other {α : Type} (l : List (Nat × α)) (n k : Nat) (x : α) (h : k ≠ n) :
    findEntry (putEntry l n x) k = findEntry l k := by
  induction l with
  | nil => simp [putEntry, findEntry, h.symm]
  | cons e l ih =>
    obtain ⟨j, y⟩ := e
    simp only [putEntry]
    split
    · simp [findEntry, h.symm]
    · split
      · subst_vars
        simp [findEntry, h.symm]
      · simp only [findEntry]
        rw [ih]

/-- Reading a table after a put. -/
@[simp] theorem Table.find?_put_same {α : Type} (t : Table α) (n : Nat) (x : α) : (t.put n x).find? n = some x :=
  findEntry_putEntry_same _ _ _

/-- Reading a table after a put under another number. -/
theorem Table.find?_put_other {α : Type} (t : Table α) (n k : Nat) (x : α) (h : k ≠ n) :
    (t.put n x).find? k = t.find? k :=
  findEntry_putEntry_other _ _ _ _ h

/-- A number that stands in the list is found, whatever the order of the list. -/
theorem findEntry_isSome {α : Type} {l : List (Nat × α)} {e : Nat × α} (h : e ∈ l) :
    (findEntry l e.1).isSome = true := by
  induction l with
  | nil => cases h
  | cons a l ih =>
    obtain ⟨k, y⟩ := a
    simp only [findEntry]
    split
    · rfl
    · rcases List.mem_cons.mp h with h | h
      · subst h
        simp_all
      · exact ih h

/-! ## The canonical form -/

/-- A list that rises from above a bound rises from above a lower bound. -/
theorem risingFrom_lower {α : Type} {a b : Nat} {l : List (Nat × α)} (h : a ≤ b)
    (hl : risingFrom (some b) l = true) : risingFrom (some a) l = true := by
  cases l with
  | nil => rfl
  | cons e l =>
    simp only [risingFrom, Bool.and_eq_true, decide_eq_true_eq] at *
    exact ⟨by omega, hl.2⟩

/-- A list that rises from above a bound rises. -/
theorem risingFrom_none {α : Type} {b : Nat} {l : List (Nat × α)} (h : risingFrom (some b) l = true) :
    risingFrom none l = true := by
  cases l with
  | nil => rfl
  | cons e l =>
    simp only [risingFrom, Bool.and_eq_true] at h
    simpa [risingFrom] using h.2

/-- Putting a number above a bound keeps a list rising from above that bound. -/
theorem risingFrom_put {α : Type} {l : List (Nat × α)} {b n : Nat} {x : α} (hb : b < n)
    (h : risingFrom (some b) l = true) : risingFrom (some b) (putEntry l n x) = true := by
  induction l generalizing b with
  | nil => simp [putEntry, risingFrom, hb]
  | cons e l ih =>
    obtain ⟨k, y⟩ := e
    simp only [risingFrom, Bool.and_eq_true, decide_eq_true_eq] at h
    simp only [putEntry]
    split
    · rename_i hk
      simp [risingFrom, hb, hk, h.2]
    · split
      · subst_vars
        simp [risingFrom, hb, h.2]
      · simp only [risingFrom, Bool.and_eq_true, decide_eq_true_eq]
        exact ⟨h.1, ih (by omega) h.2⟩

/-- Putting a number keeps a list rising. -/
theorem rising_put {α : Type} {l : List (Nat × α)} {n : Nat} {x : α} (h : risingFrom none l = true) :
    risingFrom none (putEntry l n x) = true := by
  cases l with
  | nil => simp [putEntry, risingFrom]
  | cons e l =>
    obtain ⟨k, y⟩ := e
    simp only [risingFrom] at h
    simp only [putEntry]
    split
    · rename_i hk
      simp [risingFrom, hk, h]
    · split
      · subst_vars
        simpa [risingFrom] using h
      · simp only [risingFrom]
        exact risingFrom_put (by omega) h

/-- Filtering keeps a list rising from above its bound. -/
theorem risingFrom_filter {α : Type} (f : Nat × α → Bool) {l : List (Nat × α)} {b : Nat}
    (h : risingFrom (some b) l = true) : risingFrom (some b) (l.filter f) = true := by
  induction l generalizing b with
  | nil => rfl
  | cons e l ih =>
    simp only [risingFrom, Bool.and_eq_true, decide_eq_true_eq] at h
    simp only [List.filter_cons]
    split
    · simp only [risingFrom, Bool.and_eq_true, decide_eq_true_eq]
      exact ⟨h.1, ih h.2⟩
    · exact risingFrom_lower (by omega) (ih h.2)

/-- Filtering keeps a list rising. -/
theorem rising_filter {α : Type} (f : Nat × α → Bool) {l : List (Nat × α)} (h : risingFrom none l = true) :
    risingFrom none (l.filter f) = true := by
  cases l with
  | nil => rfl
  | cons e l =>
    simp only [risingFrom] at h
    simp only [List.filter_cons]
    split
    · simpa [risingFrom] using risingFrom_filter f h
    · exact risingFrom_none (risingFrom_filter f h)

/-- A put keeps the canonical form. -/
theorem Table.put_wf {α : Type} {t : Table α} (n : Nat) (x : α) (h : t.wf = true) : (t.put n x).wf = true :=
  rising_put h

/-- An erasure keeps the canonical form. -/
theorem Table.erase_wf {α : Type} {t : Table α} (n : Nat) (h : t.wf = true) : (t.erase n).wf = true :=
  rising_filter _ h

/-- Giving or taking away a number keeps the canonical form. -/
theorem Table.set_wf {α : Type} {t : Table α} (n : Nat) (x : Option α) (h : t.wf = true) : (t.set n x).wf = true := by
  cases x
  · exact Table.erase_wf n h
  · exact Table.put_wf n _ h

/-- A filter keeps the canonical form. -/
theorem Table.filter_wf {α : Type} {t : Table α} (f : Nat × α → Bool) (h : t.wf = true) :
    (Table.mk (t.entries.filter f)).wf = true :=
  rising_filter f h

end Sys2Proof.Machine
end

