-- ==== Sys2Proof/Tests/Slice0.lean ====
section
/-! SUPPORT. Slice0: tests of the syntax checks, of frames and of single steps, and for each obligation with hypotheses a
state that meets them. Expected values are worked from the rules the names cite. -/

namespace Sys2Proof.Tests

open Sys2Proof.Machine

/-! ## WellFormed: for each check an ill-formed term that it refuses -/

/-- Operands of PUT_CREDENTIAL that fit. -/
def card : CredentialOperands where
  id := 9
  kind := 2
  status := 0
  tenancy := none
  expiry := none
  budget := none
  staffProfile := some 15
  staffZones := some 0x0002
  reserved := 0

/-- Operands of PUT_PORTAL in range: yes for every yes or no but the egress flag, no free profile, no group. -/
def doorOperands : PortalOperands where
  enabled := 0
  outer := 0
  inner := 1
  baseMode := 0
  freeProfile := 0xFF
  unlockCount := 50
  unlockBase := 0
  heldLimit := 30
  passback := 0
  leafSensor := 0
  beam := 0
  exitButton := 0
  egress := 1
  polarity := 0
  group := 0xFF
  fallback := 1
  timeout := 20

/-- Operands of PUT_CAR in range. -/
def liftOperands : CarOperands where
  enabled := 0
  landings := 2
  zones := [1, 2]
  home := 0
  mode := 0
  passback := 0
  window := 30

theorem test_wf_one_byte_refused : (Instr.withdraw 256).wf = false := by decide
theorem test_wf_two_bytes_refused : (Instr.putSite 65536).wf = false := by decide
theorem test_wf_four_bytes_refused : (Instr.dropCredential 4294967296).wf = false := by decide
theorem test_wf_unit_list_refused : (Instr.putTenancy 1 0 0 (List.replicate 28 7)).wf = false := by decide
theorem test_wf_unit_number_refused : (Instr.putTenancy 1 0 0 [65536]).wf = false := by decide
theorem test_wf_window_list_refused :
    (Instr.putProfile 1 (List.replicate 12 ⟨1, 0, 60⟩) 0 0).wf = false := by decide
theorem test_wf_window_minute_refused : (Instr.putProfile 1 [⟨1, 65536, 60⟩] 0 0).wf = false := by decide
theorem test_wf_holiday_list_refused : (Instr.putHolidays (List.replicate 30 7)).wf = false := by decide
theorem test_wf_credential_refused : (Instr.putCredential { card with budget := some 256 }).wf = false := by decide
theorem test_wf_presence_refused : (Instr.putCredential { card with reserved := 8 }).wf = false := by decide
theorem test_wf_portal_refused : (Instr.putPortal 0 { doorOperands with timeout := 256 }).wf = false := by decide
theorem test_wf_car_refused : (Instr.putCar 0 { liftOperands with zones := List.replicate 53 1 }).wf = false := by decide
theorem test_wf_key_refused : (Instr.readRecord .office 4 256).wf = false := by decide
theorem test_wf_unknown_kind_carries_no_key : (Instr.readRecord .office 9 1).wf = false := by decide
theorem test_wf_address_refused : (Instr.frameStart .office 128).wf = false := by decide

/-! ## Frames written out from R172 and R176 -/

/-- PRESENT of credential 0x1234 at reader 6. -/
def presentFrame : List Byte := [0x01, 0x05, 0x06, 0x00, 0x00, 0x12, 0x34, 0xAE]

theorem test_present_frame : requestFrame (.present 6 0x1234) = some presentFrame := by decide
theorem test_present_frame_read : judgeFrame .field presentFrame = .request (.present 6 0x1234) := by decide
theorem test_present_frame_wrong_port : judgeFrame .office presentFrame = .refused .notPermitted := by decide
theorem test_put_unit_frame_read :
    judgeFrame .office [0x10, 0x04, 0x01, 0x02, 0x03, 0x00, 0xE6] = .request (.putUnit 258 3 0) := by decide
theorem test_set_clock_frame_read :
    judgeFrame .office [0x20, 0x05, 0x01, 0x00, 0x02, 0x08, 0x0A, 0xC6] = .request (.setClock 256 520 10) := by decide
theorem test_clear_events_frame_read :
    judgeFrame .field [0x35, 0x02, 0x10, 0x10, 0xA9] = .request (.clearEvents .field 0x1010) := by decide
theorem test_profile_frame_read :
    judgeFrame .office [0x15, 0x0A, 0x03, 0x01, 0x1F, 0x02, 0x1C, 0x04, 0x38, 0x00, 0x06, 0x05, 0x59] =
      .request (.putProfile 3 [⟨0x1F, 540, 1080⟩] 0x0006 5) := by decide
theorem test_credential_frame_read :
    judgeFrame .office [0x13, 0x0A, 0x00, 0x00, 0x00, 0x09, 0x02, 0x00, 0x18, 0x0F, 0x00, 0x02, 0xAF] =
      .request (.putCredential card) := by decide
theorem test_check_byte_refused : judgeFrame .office [0x28, 0x00, 0x00] = .refused .check := by decide
theorem test_unknown_code_refused : judgeFrame .office [0x40, 0x00, 0xC0] = .refused .unknownRequest := by decide
theorem test_operand_count_refused : judgeFrame .office [0x22, 0x02, 0x01, 0x01, 0xDA] = .refused .badLength := by decide
theorem test_no_word_spells_a_command : decodeTableWord 8 0x01 = none := by decide

/-! ## Small states -/

/-- A part whose restore has completed on empty slots. -/
def up : State := { State.reset with store := { State.reset.store with phase := .ready } }

/-- A state whose portal has this record and this controller. -/
def withPortal (s : State) (p : Fin 16) (r : PortalRec) (q : Portal) : State :=
  { (s.modMirror (fun m => { m with portals := m.portals.set p r })) with portals := s.portals.set p q }

/-- A portal record with every line fitted. -/
def door : PortalRec :=
  { PortalRec.initial with enabled := true, leafSensor := true, beam := true, exitButton := true, heldLimit := 30 }

/-- A controller of such a portal at rest. -/
def shut : Portal := { Portal.stopped with position := .closed, exit := .released, beam := .armed }

/-- The same with a release in progress, its unlock timer at tick 0. -/
def released : Portal :=
  { shut with
    leaf := .released
    grants := 1
    tailgate := true
    moves := [{ id := 9, fromZone := 0, toZone := 1, arrival := true, ticket := none }]
    unlock := some 0 }

/-- The part with portal 3 at rest. -/
def atRest : State := withPortal up 3 door shut

/-- A staff credential admitted to zone 1 at every minute. -/
def staff : CredRec where
  kind := .staff
  status := .valid
  tenancy := none
  expiry := none
  budget := none
  staffProfile := some 15
  staffZones := some 0x0002

/-- A delegate credential of tenancy 5 with one entry left in its budget. -/
def delegate : CredRec where
  kind := .delegate
  status := .valid
  tenancy := some 5
  expiry := none
  budget := some 1
  staffProfile := none
  staffZones := none

/-- The part with credential 9 of the staff and delegate 10 of tenancy 5, which is in GRACE and holds unit 7 in zone 1. -/
def peopled : State :=
  atRest.modMirror (fun m =>
    { m with
      credentials := ⟨[(9, { slot := 0, record := staff }), (10, { slot := 1, record := delegate })]⟩
      tenancies := ⟨[(5, { state := .grace, profile := 15, units := [7] })]⟩
      units := ⟨[(7, { zone := 1, state := .rented, tenancy := some 5 }), (8, { zone := 2, state := .vacant, tenancy := none })]⟩ })

/-- A roster entry of a credential in zone 1. -/
def entry (id : Nat) (car : Option (Fin 4)) : RosterEntry where
  id := id
  tenancy := none
  zone := 1
  day := 0
  minute := 0
  counter := 0
  overstay := false
  muster := false
  car := car

/-- The part with a lift car of two landings whose one passenger, credential 9, may alight at landing 1. -/
def riding : State :=
  { peopled.modMirror (fun m =>
      { m with cars := m.cars.set 0 { CarRec.initial with enabled := true, landings := 2, zones := [1, 2] } }) with
    roster := [entry 9 (some 0)]
    cars :=
      peopled.cars.set 0
        { landing := some 0, session := .opened, timer := some 0, passengers := [{ id := 9, landings := 0x0002 }] } }

/-- A PENDING entry of delegate 10 at the entry reader of portal 3, with its deadline at tick 0. -/
def waiting : Referral where
  ticket := 4
  reader := 6
  id := 10
  tenancy := 5
  reason := .grace
  state := .pending
  deadline := 0

/-- The part with that entry. -/
def referred : State := { peopled with referrals := [waiting] }

/-- The level of VBAT, with main power present or absent. -/
def supplied (main vbat : Bool) : State :=
  { up with
    power := { main := main, resetAsserted := false }
    pins := { up.pins with straps := { up.pins.straps with vbat := vbat } } }

/-- What an outcome leaves of a state, for tests on one field. -/
def look {α : Type} (f : State → α) (o : Host.Outcome State Fault Refusal) : Option α :=
  match o with
  | .next t => some (f t)
  | _ => none

/-! ## Single steps -/

theorem test_present_unknown : look (·.field.reply) (exec (.present 6 77) atRest) = some (some ⟨.ok, [3, 19, 0, 0, 0]⟩) := by
  decide
theorem test_present_granted :
    look (fun t => (t.portals[3].leaf, t.portals[3].grants, t.outs.strike[3], t.field.reply)) (exec (.present 6 9) peopled)
      = some (.released, 1, .high, some ⟨.ok, [1, 0, 0, 0, 0]⟩) := by decide
theorem test_present_referred :
    look (fun t => (t.referrals.map (·.ticket), t.field.reply)) (exec (.present 6 10) peopled)
      = some ([1], some ⟨.ok, [4, 3, 1, 0, 0]⟩) := by decide
theorem test_car_arrival_alights :
    look (fun t => (t.roster.map (fun e => (e.zone, e.car)), t.field.reply)) (exec (.carArrival 0 1) riding)
      = some ([(2, none)], some ⟨.ok, [0, 1, 1, 0, 0]⟩) := by decide
theorem test_take_pending_refused :
    look (·.field.reply) (exec (.takeOutcome 4) referred) = some (some ⟨.notFound, []⟩) := by decide
theorem test_withdraw_pending :
    look (fun t => (t.referrals, t.field.reply)) (exec (.withdraw 4) referred)
      = some ([], some ⟨.ok, [4, 23, 0xFF, 0xFF]⟩) := by decide
theorem test_answer_denied :
    look (fun t => (t.field.flags, t.office.reply)) (exec (.answerReferral 4 10 1) referred)
      = some (0x1000, some ⟨.ok, [4, 18, 0xFF, 0xFF]⟩) := by decide
theorem test_answer_approved :
    look (fun t => (t.portals[3].leaf, t.office.reply)) (exec (.answerReferral 4 10 0) referred)
      = some (.released, some ⟨.ok, [4, 17, 0xFF, 1]⟩) := by decide
theorem test_read_portal_secure :
    look (·.office.reply) (exec (.readPortal .office 3) atRest)
      = some (some ⟨.ok, [0, 0, 0xFF, 1, 0, 0, 0, 1, 1, 0, 0, 0, 0]⟩) := by decide
theorem test_read_status :
    look (·.office.reply) (exec (.readStatus .office) up)
      = some (some ⟨.ok, [0, 1, 0, 0, 1, 0, 0, 0, 0, 0, 0, 0, 1, 1, 0, 1, 0, 1, 0, 1, 0, 0, 0, 0, 0, 0, 0, 0]⟩) := by
  decide
theorem test_tick_ends_second :
    look (fun t => (t.clock.phase, t.clock.second, t.clock.tick))
      (exec (.tick none) { up with clock := { up.clock with phase := 99, second := 58 } }) = some (0, 59, 1) := by decide +kernel
theorem test_boundary_wraps_day :
    look (fun t => (t.clock.day, t.clock.minute, t.clock.second))
      (exec .minuteBoundary
        { up with clock := { up.clock with phase := 99, second := 59, minute := 1439, day := 65535 } })
      = some (0, 0, 0) := by decide +kernel
theorem test_forced_asserts_alarm :
    look (fun t => (t.portals[3].leaf, t.outs.alarm))
      (exec (.leafOpenRecognized 3)
        { withPortal up 3 door { shut with leafDebounce := some 0 } with
          pins := { up.pins with leaf := up.pins.leaf.set 3 true } })
      = some (.forced, true) := by decide
theorem test_power_loss_keeps_slots :
    look (fun t => (t.store.slots.site, t.store.phase, t.outs.strike[3]))
      (exec .mainPowerLoss { up with store := { up.store with slots := { up.store.slots with site := some (.valid 5) } } })
      = some (some (.valid 5), .restoring, .undriven) := by decide
theorem test_both_supplies_lost_unsets_clock :
    look (fun t => (t.clock.mark, t.clock.valid)) (exec .mainPowerLoss
      { supplied true false with clock := { up.clock with valid := true } }) = some (false, false) := by decide
theorem test_vbat_loss_under_main_power_keeps_clock :
    look (fun t => (t.clock.mark, t.clock.valid, t.pins.straps.vbat))
      (exec .vbatLoss { up with clock := { up.clock with valid := true } }) = some (true, true, false) := by decide
theorem test_power_on_after_loss_starts_unset :
    look (fun t => (t.clock.mark, t.clock.valid))
      (exec .powerOn { supplied false false with clock := Clock.lose { up.clock with valid := true } })
      = some (true, false) := by decide
theorem test_restore_starts_journal :
    look (fun t => (t.store.phase, t.journal.map (·.kind))) (exec .restoreComplete State.reset)
      = some (.ready, [.start]) := by decide

/-! ## Witnesses: for each obligation with hypotheses, states and operands that meet them -/

/-- A lawful running part with a command waiting. -/
def lawful : State := State.drive { atRest with pending := [.exitLineChange 3 true] }

/-- Egress portal 3 is FREE under an ACTIVE fire state. -/
def burning : State :=
  State.drive
    (withPortal { up with fire := { up.fire with active := true } } 3 { door with egress := true }
      { shut with leaf := .free, mode := .free })

/-- Portal 3 with LEAF at a level and its debounce ending at this tick. -/
def leafAt (level : Bool) (q : Portal) : State :=
  { withPortal up 3 door { q with leafDebounce := some 0 } with pins := { up.pins with leaf := up.pins.leaf.set 3 level } }

/-- Portal 3 with EXIT at a level and its debounce ending at this tick. -/
def exitAt (level : Bool) (r : PortalRec) (q : Portal) : State :=
  { withPortal up 3 r { q with exitDebounce := some 0 } with pins := { up.pins with exit := up.pins.exit.set 3 level } }

/-- The Store programming a job for the Office Port. -/
def programs (s : State) (j : Job) : State :=
  { s with store := { s.store with phase := .programming, job := some j }, office := { s.office with busy := true } }

/-- A job of a put or drop at one of its slots. -/
def jobAt (writes : List SlotWrite) (verified : Nat) (retry : Bool) : Job where
  task := .request
  writes := writes
  verified := verified
  retry := retry

/-- The Store programming the site slot. -/
def programmingSite (retry : Bool) : State := programs up (jobAt [.site 9] 0 retry)

/-- The write-back of delegate 10 in progress, or waiting. -/
def marked (job : Option Job) (wp : Bool) : State :=
  { peopled with
    store := { peopled.store with marks := [10], job := job }
    pins := { peopled.pins with straps := { peopled.pins.straps with storeWp := wp } } }

/-- The rider with credential 9 admitted to zones 1 and 2. -/
def rider : State :=
  riding.modMirror (fun m =>
    { m with credentials := m.credentials.put 9 { slot := 0, record := { staff with staffZones := some 0x0006 } } })

/-- STORE_WP asserted. -/
def protectedUp : State := { up with pins := { up.pins with straps := { up.pins.straps with storeWp := true } } }

/-- An entry whose outcome is ready. -/
def answered : State := { peopled with referrals := [{ waiting with state := .resolved .denied }] }

theorem test_witness_StepRunsFront :
    ({ up with pending := [.powerOn] } : State).pending = .powerOn :: [] ∧ up.pending = [] := ⟨rfl, rfl⟩

theorem test_witness_OutputsKept : OutputsFollow lawful ∧ ∃ t, step lawful = .next t :=
  ⟨by unfold OutputsFollow; decide, _, rfl⟩
theorem test_witness_LogsKept : JournalBounded lawful ∧ QueueLaw lawful ∧ FlagsOfPorts lawful :=
  ⟨by unfold JournalBounded; decide, by unfold QueueLaw; decide, fun p => by cases p <;> decide⟩
theorem test_witness_CyclesKept : CyclesClosed lawful ∧ SessionsAgree lawful :=
  ⟨by unfold CyclesClosed; decide, by unfold SessionsAgree; decide⟩
theorem test_witness_EgressKept : EgressFree lawful ∧ EgressFree burning :=
  ⟨by unfold EgressFree StoppedRestores; decide, by unfold EgressFree StoppedRestores; decide⟩
theorem test_witness_TablesKept : TablesRise peopled ∧ RosterDistinct riding :=
  ⟨by unfold TablesRise; decide, by unfold RosterDistinct; decide⟩
theorem test_witness_RestoringKept :
    RestoringHoldsNothing State.reset ∧ State.reset.store.phase = .restoring ∧ ∃ t, step State.reset = .next t :=
  ⟨by unfold RestoringHoldsNothing; decide, rfl, _, rfl⟩
theorem test_witness_FireReleasesEgressStrikes :
    OutputsFollow burning ∧ step burning = .next burning ∧ burning.running = true ∧ burning.fire.active = true
      ∧ (burning.portalRec 3).egress = true :=
  ⟨by unfold OutputsFollow; decide, rfl, rfl, rfl, by decide⟩
theorem test_witness_AlarmFollowsStates :
    State.reset.sampling = true ∧ State.reset.store.phase = .restoring ∧ State.reset.fire.latch = false
      ∧ (∃ t, exec .restoreComplete State.reset = .next t) ∧ (∃ t, exec .resetAssert up = .next t)
      ∧ (∃ c : Instr, c ≠ .restoreComplete ∧ ∃ t, exec c State.reset = .next t)
      ∧ ∃ t, exec (.clearEvents .office 0x0010) up = .next t ∧ t.fire.latch = up.fire.latch :=
  ⟨rfl, rfl, rfl, ⟨_, rfl⟩, ⟨_, rfl⟩, ⟨.powerOn, by decide, _, rfl⟩, _, rfl, by decide⟩
theorem test_witness_StrikesFollowLeaves :
    (∃ t, exec .vbatLoss up = .next t ∧ t.running = true) ∧ ∃ t, exec .resetAssert up = .next t ∧ t.running = false :=
  ⟨⟨_, rfl, by decide⟩, _, rfl, by decide⟩
theorem test_witness_DrivesFollowMembers :
    let grouped : PortalRec := { door with group := some 1 }
    let s (a b : Portal) : State := withPortal (withPortal up 3 grouped a) 4 grouped b
    let low : State := { s shut shut with
      pins := { up.pins with straps := { up.pins.straps with ilOther := up.pins.straps.ilOther.set 1 true } } }
    ((s shut shut).portalRec 3).group = some 1 ∧ (s shut shut).egressUnderFire 3 = false
      ∧ (up.portalRec 3).group = none ∧ (burning.fire.active = true ∧ (burning.portalRec 3).egress = true)
      ∧ (s shut released).busyFor 3 = some 1 ∧ low.busyFor 3 = some 2 ∧ (s shut shut).busyFor 3 = none
      ∧ (s released shut).busyFor 3 = none := by decide
theorem test_witness_JournalRing :
    let r := up.blankRecord .start
    (up.journal.length < 512 ∧ up.journal.length + 1 ≠ 256) ∧ (List.replicate 255 r).length + 1 = 256
      ∧ (List.replicate 512 r = r :: r :: List.replicate 510 r ∧ 512 ≤ (List.replicate 512 r).length)
      ∧ up.acknowledges .office = true :=
  ⟨by decide, congrArg (· + 1) List.length_replicate, ⟨rfl, Nat.le_of_eq List.length_replicate.symm⟩, rfl⟩
theorem test_witness_FrameSpellsRequest :
    ((Instr.present 6 0x1234).wf = true ∧ requestPort (.present 6 0x1234) = some .field
      ∧ requestFrame (.present 6 0x1234) = some presentFrame)
      ∧ Instr.clearRoster.wf = true ∧ requestPort .clearRoster = some .office
      ∧ requestFrame .clearRoster = some [0x28, 0x00, 0xD8] := by decide
theorem test_witness_FramesRefused :
    up.acknowledges .field = true ∧ up.acknowledges .office = true
      ∧ codePorts ((requestBytes .clearRoster).map (·.1) |>.getD 0) = some [.office]
      ∧ codePorts ((requestBytes (.present 6 0x1234)).map (·.1) |>.getD 0) = some [.field]
      ∧ ([0x28, 0x00] : List Byte).length < 3 ∧ 63 < (List.replicate 64 (0 : Byte)).length
      ∧ ([0, 0] : List Byte).length ≠ (0 : Byte).toNat + 1
      ∧ (([0] : List Byte).length = (0 : Byte).toNat + 1 ∧ sumOf [0x28, 0, 0] ≠ 0)
      ∧ ([1, 2] : List Byte).length ≠ 4 ∧ ([1, 2, 0, 0, 2] : List Byte).length ≠ 5 + 2 * (2 : Byte).toNat
      ∧ credentialFieldLength 0x1F = 8 ∧ ([2, 0, 0] : List Byte).head? = some (BitVec.ofNat 8 2) := by decide
theorem test_witness_FramesOpenAndEnd :
    let s := { up with office := { up.office with reply := some ⟨.ok, [7]⟩, timer := some 0, frame := .discarding } }
    up.acknowledges .office = true ∧ up.office.reply = none ∧ (s.port .office).reply = some ⟨.ok, [7]⟩
      ∧ (s.running = true ∧ (s.port .office).timer = some s.clock.tick) ∧ (s.port .office).frame = .discarding := by
  decide
theorem test_witness_ReadsChangeNothing : up.acknowledges .office = true ∧ up.acknowledges .field = true := by decide
theorem test_witness_ReadsReport :
    atRest.acknowledges .office = true ∧ atRest.acknowledges .field = true
      ∧ (CyclesClosed atRest ∧ atRest.portals[(3 : Fin 16)].leaf = .secure)
      ∧ (atRest.cars[(0 : Fin 4)].timer = none ∧ atRest.cars[(0 : Fin 4)].passengers = [])
      ∧ (riding.acknowledges .field = true ∧ riding.cars[(0 : Fin 4)].timer = some riding.clock.tick)
      ∧ (atRest.roster.length ≤ 255 ∧ atRest.referrals = [] ∧ ∀ q : Fin 16, atRest.portals[q].moves = [])
      ∧ peopled.store.mirror.units.find? 4095 = none
      ∧ peopled.store.mirror.units.find? 7 = some { zone := 1, state := .rented, tenancy := some 5 } :=
  ⟨by decide, by decide, ⟨by unfold CyclesClosed; decide, by decide⟩, by decide, by decide, by decide, by decide,
    by decide⟩
theorem test_witness_FlagsAndMasks :
    let latched (x : Bool) : State :=
      { up with fire := { up.fire with latch := true }, pins := { up.pins with tamper := x } }
    up.acknowledges .field = true ∧ up.acknowledges .office = true
      ∧ (0x3DF0#16 &&& ~~~0x3DF0#16 = 0 ∧ 0x0FFF#16 &&& ~~~0x0FFF#16 = 0 ∧ (0x0100#16).getLsbD 8 = true)
      ∧ (0x0001#16 &&& ~~~0x3DF0#16 ≠ 0 ∧ 0x1000#16 &&& ~~~0x0FFF#16 ≠ 0) ∧ up.fire.latch = false
      ∧ ((latched false).acknowledges .office = true ∧ (latched false).pins.tamper = false)
      ∧ ((latched true).acknowledges .office = true ∧ (latched true).fire.latch = true) := by decide
theorem test_witness_SetClockLoads : up.acknowledges .office = true := by decide
theorem test_witness_ClockAdvances :
    let at99 (second : Nat) : State := { up with clock := { up.clock with phase := 99, second := second } }
    (up.clockPowered = true ∧ up.clock.boundaryDue = false ∧ up.clock.phase < 99 ∧ up.power.main = true)
      ∧ ((supplied false true).clockPowered = true ∧ (supplied false true).pins.straps.vbat = true)
      ∧ ((at99 58).clockPowered = true ∧ (at99 58).clock.phase = 99 ∧ (at99 58).clock.second < 59)
      ∧ ((at99 59).clockPowered = true ∧ (at99 59).clock.boundaryDue = false ∧ (at99 59).clock.second = 59) := by decide
theorem test_witness_BoundaryCounts :
    let due : State := { riding with clock := { riding.clock with boundaryDue := true } }
    (due.clock.boundaryDue = true ∧ due.running = true ∧ due.fire.active = false
        ∧ ∀ p : Fin 16, look (fun t => t.portals[p].mode) (exec .minuteBoundary due) = some due.portals[p].mode)
      ∧ ({ supplied false true with clock := due.clock } : State).running = false
      ∧ burning.fire.active = true
      ∧ riding.verdict (riding.entryProfile (entry 9 none)) = .inWindow
      ∧ riding.verdict (riding.entryProfile (entry 77 none)) = .outWindow ∧ (entry 77 none).counter ≤ 255 := by decide +kernel
theorem test_witness_BoundaryCounts_by_tick :
    let s : State := { up with clock := { up.clock with phase := 99, second := 59 } }
    s.clock.endsMinute = true ∧ s.settleDue = s ∧ s.running = true := by decide +kernel
theorem test_witness_WindowVerdict :
    up.clock.valid = false ∧ ({ up.clock with valid := true } : Clock).valid = true ∧ up.clock.minute < 1440
      ∧ up.store.mirror.profiles.find? 14 = none := by decide
theorem test_witness_PutsRefused :
    let m := peopled.store.mirror
    let eight := (List.range 8).map (fun k => (k + 20, ({ slot := k, record := delegate } : CredEntry)))
    (protectedUp.acknowledges .office = true ∧ protectedUp.pins.straps.storeWp = true)
      ∧ (peopled.acknowledges .office = true ∧ peopled.pins.straps.storeWp = false)
      ∧ m.units.find? 4095 = none ∧ m.tenancies.find? 1023 = none
      ∧ (m.units.find? 8 = some { zone := 2, state := .vacant, tenancy := none }
        ∧ m.units.find? 7 = some { zone := 1, state := .rented, tenancy := some 5 })
      ∧ ((m.tenancies.find? 5).isSome = true ∧ 0 < m.namingCount 5 none) ∧ m.credentials.find? 4294967294 = none
      ∧ credRecOf { card with kind := 1, tenancy := some 5, staffProfile := none, staffZones := none }
          = some { delegate with budget := none }
      ∧ 8 ≤ Mirror.namingCount { m with credentials := ⟨eight⟩ } 5 (some 9) := by decide
theorem test_witness_PutsRefused_table_full :
    let full : Table CredEntry := ⟨List.replicate 2048 (1, { slot := 0, record := staff })⟩
    credRecOf card = some staff ∧ staff.tenancy = none ∧ full.find? card.id = none ∧ 2048 ≤ full.size := by
  decide +kernel
theorem test_witness_PutsTaken :
    (up.acknowledges .office = true ∧ up.pins.straps.storeWp = false ∧ up.store.job = none)
      ∧ (∀ w ∈ [(⟨0xFF, 0, 1440⟩ : WindowOperand)],
          w.classes ≠ 0 ∧ w.openMinute ≤ 1439 ∧ w.closeMinute ≤ 1440 ∧ w.openMinute < w.closeMinute)
      ∧ (portalRecOf doorOperands).isSome = true ∧ (carRecOf liftOperands).isSome = true
      ∧ ((marked (some (jobAt [.site 9] 0 false)) false).acknowledges .office = true
        ∧ (marked (some (jobAt [.site 9] 0 false)) false).store.job = some (jobAt [.site 9] 0 false)) := by decide
theorem test_witness_PutsTaken_tables :
    (peopled.acknowledges .office = true ∧ peopled.pins.straps.storeWp = false ∧ peopled.store.job = none)
      ∧ unitChangeAllowed (peopled.store.mirror.units.find? 8) .maintenance = true
      ∧ (∀ u ∈ [8], ∃ r, peopled.store.mirror.units.find? u = some r ∧ unitFreeFor 1023 r = true)
      ∧ (peopled.store.mirror.tenancies.find? 5 = some { state := .grace, profile := 15, units := [7] }
          ∧ (Mirror.namingCount { peopled.store.mirror with credentials := ⟨[]⟩ } 5 none = 0))
      ∧ (credRecOf card = some staff ∧ peopled.store.mirror.slotFor 9 = some 0 ∧ peopled.store.mirror.slotFor 11 = some 2)
      ∧ peopled.store.mirror.credentials.find? 9 = some { slot := 0, record := staff } :=
  ⟨by decide, by decide, by
    intro u hu
    simp only [List.mem_singleton] at hu
    subst hu
    exact ⟨{ zone := 2, state := .vacant, tenancy := none }, by decide⟩, by decide, by decide, by decide⟩
theorem test_witness_SitePutsComplete :
    (up.acknowledges .office = true ∧ up.pins.straps.storeWp = false ∧ up.store.job = none)
      ∧ ((programmingSite false).running = true ∧ (programmingSite false).store.waiting = none)
      ∧ (programmingSite false).store.job = some { task := .request, writes := [.site 9], verified := 0, retry := false }
      ∧ up.entryOf 9 = none := by decide
theorem test_witness_PutsComplete :
    let slot : CredSlot := { id := 10, record := { delegate with tenancy := none } }
    let two := jobAt [.unit 8 { zone := 1, state := .vacant, tenancy := none }, .tenancy 5 none] 0 false
    let last : Job := { two with verified := 1 }
    let back : Job := { jobAt [.credential 1 (some slot)] 0 false with task := .writeBack 10 }
    let waits := { (programs peopled back) with store := { (programs peopled back).store with waiting := some [.site 9] } }
    ((programs peopled two).running = true ∧ (programs peopled two).store.job = some two
        ∧ two.writes[two.verified]? = some (.unit 8 { zone := 1, state := .vacant, tenancy := none })
        ∧ two.verified + 1 < two.writes.length)
      ∧ (last.verified + 1 = last.writes.length ∧ last.task = .request ∧ (programs peopled last).store.waiting = none)
      ∧ (programs riding (jobAt [.car 0 { CarRec.initial with landings := 1 }] 0 false)).running = true
      ∧ (∀ x ∈ peopled.store.mirror.credentials.entries, x.2.slot = 1 → x.1 = slot.id)
      ∧ (waits.running = true ∧ back.verified + 1 = back.writes.length ∧ waits.store.waiting = some [.site 9]) := by decide
theorem test_witness_PortalPutTakenUp :
    let s (q : Portal) : State :=
      programs (withPortal up 3 door q) (jobAt [.portal 3 { door with leafSensor := false, beam := false }] 0 false)
    ((s shut).running = true ∧ (s released).running = true)
      ∧ (s { shut with leaf := .held, position := .opened }).store.waiting = none
      ∧ ((s { shut with leaf := .forced, position := .opened }).portalRec 3).leafSensor = true := by decide
theorem test_witness_CredentialDropHandedOver :
    let s := programs referred (jobAt [.credential 1 none] 0 false)
    let t := programs riding (jobAt [.credential 0 none] 0 false)
    (s.running = true ∧ s.store.waiting = none ∧ s.store.mirror.credentials.wf = true
        ∧ s.store.mirror.credentials.find? 10 = some { slot := 1, record := delegate }
        ∧ ∀ x ∈ s.store.mirror.credentials.entries, x.2.slot ∈ [1] → x.1 = 10)
      ∧ (t.running = true ∧ t.store.mirror.credentials.find? 9 = some { slot := 0, record := staff }
        ∧ (t.entryOf 9).isSome = true)
      ∧ QueueLaw s ∧ QueueLaw t :=
  ⟨by decide, by decide, by unfold QueueLaw; decide, by unfold QueueLaw; decide⟩
theorem test_witness_StoreFaultStops :
    let j := jobAt [.credential 0 none] 0 true
    let m := (reloadSlot (peopled.store.slots.program false (.credential 0 none)) peopled.store.mirror
      (.credential 0 none)).reconcile
    let back : Job := { jobAt [.credential 1 none] 0 true with task := .writeBack 10 }
    ((programmingSite false).running = true ∧ (programmingSite false).store.job = some (jobAt [.site 9] 0 false)
        ∧ (jobAt [.site 9] 0 false).retry = false)
      ∧ ((programs peopled j).running = true ∧ (programs peopled j).store.waiting = none ∧ j.retry = true
        ∧ j.writes[j.verified]? = some (.credential 0 none))
      ∧ (m.portals = peopled.store.mirror.portals ∧ (peopled.store.mirror.credentials.find? 9).isSome = true
        ∧ m.credentials.find? 9 = none)
      ∧ ((programs peopled back).running = true ∧ back.retry = true ∧ back.writes[back.verified]? = some (.credential 1 none))
      ∧ peopled.store.mirror.tenancies.find? 5 = some { state := .grace, profile := 15, units := [7] } := by decide
theorem test_witness_BudgetWriteBackRuns :
    let e : CredEntry := { slot := 1, record := delegate }
    let j : Job :=
      { task := .writeBack 10, writes := [.credential 1 (some { id := 10, record := delegate })], verified := 0,
        retry := false }
    ((marked none false).running = true ∧ (marked none false).store.marks = 10 :: []
      ∧ (marked none false).store.mirror.credentials.find? 10 = some e ∧ (marked none false).store.phase = .ready)
      ∧ ((marked none true).running = true ∧ (marked none true).pins.straps.storeWp = true)
      ∧ ((marked (some j) false).store.waiting = none ∧ (marked (some j) false).store.job = some j) := by decide
theorem test_witness_ReaderAndModeDecide :
    let s (m : Mode) := withPortal up 3 door { shut with mode := m }
    (up.acknowledges .field = true ∧ (up.portalRec 15).enabled = false)
      ∧ ((s .free).acknowledges .field = true ∧ ((s .free).portalRec 3).enabled = true ∧ (s .free).referrals = [])
      ∧ (s .locked).portals[(3 : Fin 16)].mode = .locked
      ∧ (s .normal).store.mirror.credentials.find? 4294967294 = none := by decide
theorem test_witness_StaffEntryPasses :
    (peopled.portalRec 3).enabled = true ∧ (∀ e ∈ peopled.referrals, e.state = .pending → e.reader ≠ 6)
      ∧ peopled.portals[(3 : Fin 16)].mode = .normal ∧ peopled.credRec 9 = some staff
      ∧ peopled.verdict 15 = .inWindow ∧ staff.staffProfile = some 15 ∧ staff.staffZones = some 0x0002#16
      ∧ (0x0002#16).getLsbD (peopled.portalRec 3).inner = true
      ∧ (∀ q : Fin 16, ∀ m ∈ peopled.portals[q].moves, m.id ≠ 9)
      ∧ (∀ c : Fin 4, ∀ x ∈ peopled.cars[c].passengers, x.id ≠ 9) ∧ (peopled.portalRec 3).passback = .none
      ∧ (peopled.portalRec 3).group = none ∧ peopled.portals[(3 : Fin 16)].grants < 15
      ∧ peopled.portals[(3 : Fin 16)].leaf ≠ .forced
      ∧ peopled.roster.length + peopled.pendingArrivals < peopled.store.mirror.siteLimit := by decide
theorem test_witness_EntryGrantActs :
    let m : Move := { id := 9, fromZone := 0, toZone := 1, arrival := true, ticket := none }
    let s (x : LeafState) (n : Nat) := { peopled with portals := peopled.portals.set 3 { shut with leaf := x, grants := n } }
    peopled.acknowledges .field = true ∧ peopled.entryChecks 3 9 none = .pass m false
      ∧ peopled.referralOf 3 9 = none ∧ (s .released 14).entryChecks 3 9 none = .pass m false
      ∧ (s .opened 1).entryChecks 3 9 none = .pass m false ∧ (s .held 1).entryChecks 3 9 none = .pass m false := by decide
theorem test_witness_ExitsAndRegrants :
    let s (rule : Passback) (q : Portal) : State := withPortal peopled 3 { door with passback := rule } q
    let mustered : State := { s .hard shut with roster := [{ entry 9 none with zone := 2, muster := true }] }
    let m : Move := { id := 9, fromZone := 1, toZone := 0, arrival := false, ticket := none }
    (peopled.acknowledges .field = true ∧ ((s .none shut).portalRec 3).enabled = true ∧ (s .none shut).referrals = []
        ∧ (s .none shut).credRec 9 = some staff)
      ∧ (s .none shut).exitChecks 3 9 = .pass m false ∧ (s .hard shut).exitChecks 3 9 = .deny .passback
      ∧ (s .soft { shut with leaf := .opened }).exitChecks 3 9 = .pass m true
      ∧ (mustered.mustered 9 = true ∧ mustered.exitChecks 3 9 = .pass m true)
      ∧ ((s .none { released with moves := [] }).exitChecks 3 9 = .pass m false)
      ∧ ((s .none released).exitChecks 3 9 = .regrant ∧ (s .none released).entryChecks 3 9 none = .regrant
        ∧ (s .none released).portals[(3 : Fin 16)].leaf = .released) := by decide
theorem test_witness_ReferralCreated :
    peopled.acknowledges .field = true
      ∧ peopled.entryChecks 3 10 none =
          .pass { id := 10, fromZone := 0, toZone := 1, arrival := true, ticket := none } false
      ∧ peopled.referralOf 3 10 = some (5, .grace) ∧ peopled.referrals.length < 8 := by decide
theorem test_witness_CarRideGranted :
    let boarding := { rider with cars := rider.cars.set 0 Car.stopped }
    let newcomer := { boarding with roster := [] }
    let full := { newcomer with
      cars := rider.cars.set 0
        { landing := none, session := .opened, timer := some 9,
          passengers := (List.range 8).map (fun k => { id := k + 100, landings := 0x0002 }) } }
    (boarding.acknowledges .field = true ∧ boarding.carChecks 0 9 = .pass 0x0003 false
        ∧ (boarding.entryOf 9).isSome = true ∧ boarding.cars[(0 : Fin 4)].passengers.length < 8
        ∧ ∀ x ∈ boarding.cars[(0 : Fin 4)].passengers, x.id ≠ 9)
      ∧ (rider.carChecks 0 9 = .pass 0x0003 false ∧ (rider.entryOf 9).isSome = true
        ∧ rider.cars[(0 : Fin 4)].carries 9 = true)
      ∧ (newcomer.acknowledges .field = true ∧ newcomer.carChecks 0 9 = .pass 0x0003 false ∧ newcomer.entryOf 9 = none)
      ∧ (full.carChecks 0 9 = .pass 0x0003 false ∧ 8 ≤ full.cars[(0 : Fin 4)].passengers.length) := by decide
theorem test_witness_EntriesLeave :
    referred.acknowledges .field = true ∧ referred.referral? 4 = some waiting ∧ waiting.state = .pending
      ∧ answered.referral? 4 = some { waiting with state := .resolved .denied } ∧ referred.referral? 255 = none := by decide
theorem test_witness_AnswersAndDeadlinesResolve :
    let granting (q : Portal) : State := withPortal referred 3 { door with fallback := .grant } q
    (referred.acknowledges .office = true
      ∧ referred.referrals.find? (fun x => x.ticket == 4 && x.id == 10) = some waiting ∧ waiting.state = .pending
      ∧ answered.referrals.find? (fun x => x.ticket == 4 && x.id == 10)
          = some { waiting with state := .resolved .denied })
      ∧ (referred.running = true ∧ referred.referral? 4 = some waiting ∧ waiting.deadline = referred.clock.tick
        ∧ waiting.reader = 2 * 3 ∧ (referred.portalRec 3).fallback = .deny)
      ∧ ((granting shut).running = true ∧ (granting shut).referral? 4 = some waiting
        ∧ ((granting shut).portalRec 3).fallback = .grant ∧ (granting shut).portals[(3 : Fin 16)].leaf = .secure
        ∧ (granting shut).entryChecks 3 10 (some 4) =
            .pass { id := 10, fromZone := 0, toZone := 1, arrival := true, ticket := some 4 } false)
      ∧ (granting { shut with mode := .locked }).entryChecks 3 10 (some 4) = .deny .portalLocked := by decide
theorem test_witness_ApprovalRechecks :
    let locked := { referred with portals := referred.portals.set 3 { shut with mode := .locked } }
    referred.acknowledges .office = true
      ∧ referred.referrals.find? (fun x => x.ticket == 4 && x.id == 10) = some waiting ∧ waiting.reader = 2 * 3
      ∧ referred.entryChecks 3 10 (some 4) =
          .pass { id := 10, fromZone := 0, toZone := 1, arrival := true, ticket := some 4 } false
      ∧ referred.portals[(3 : Fin 16)].leaf = .secure
      ∧ locked.entryChecks 3 10 (some 4) = .deny .portalLocked := by decide
theorem test_witness_CommitMovesHolder :
    burning.fire.active = true ∧ riding.fire.active = false ∧ riding.entryOf 77 = none
      ∧ (riding.entryOf 9).isSome = true
      ∧ riding.store.mirror.credentials.find? 10 = some { slot := 1, record := delegate } ∧ delegate.budget = some 1
      ∧ riding.store.mirror.credentials.find? 9 = some { slot := 0, record := staff } ∧ staff.budget = none := by decide
theorem test_witness_DropRosterEntryRemoves :
    riding.acknowledges .office = true ∧ riding.entryOf 4294967294 = none
      ∧ riding.entryOf 9 = some (entry 9 (some 0)) := by decide
theorem test_witness_ClearRosterEmpties : riding.acknowledges .office = true := by decide
theorem test_witness_PassengersLeave :
    riding.acknowledges .field = true ∧ 1 < (riding.carRec 0).landings ∧ (riding.carRec 0).landings ≤ 2
      ∧ riding.running = true ∧ riding.cars[(0 : Fin 4)].timer = some riding.clock.tick := by decide
theorem test_witness_LinesAreFiltered :
    let s (x : BeamFilter) := withPortal up 3 door { shut with beam := x, passages := 255 }
    (atRest.running = true ∧ atRest.pins.leaf[(3 : Fin 16)] ≠ true ∧ (atRest.portalRec 3).leafSensor = true)
      ∧ (atRest.portalRec 4).leafSensor = false ∧ atRest.pins.exit[(3 : Fin 16)] ≠ true
      ∧ atRest.pins.beam[(3 : Fin 16)] = false
      ∧ (atRest.pins.beam.set 3 true)[(3 : Fin 16)] = true
      ∧ ((s (.timing 0)).running = true ∧ (s (.timing 0)).portals[(3 : Fin 16)].beam = .timing (s (.timing 0)).clock.tick)
      ∧ (s (.rearming 0)).portals[(3 : Fin 16)].beam = .rearming (s (.rearming 0)).clock.tick := by decide
theorem test_witness_LeafOpens :
    (leafAt true released).leafDue 3 true = true ∧ (leafAt true shut).leafDue 3 true = true
      ∧ (leafAt true { shut with position := .unknown }).leafDue 3 true = true
      ∧ (leafAt true { shut with leaf := .free, mode := .free }).leafDue 3 true = true := by decide
theorem test_witness_LeafCloses :
    let opened : Portal := { shut with leaf := .opened, position := .opened, tailgate := true, grants := 1, passages := 2 }
    let held : Portal := { opened with leaf := .held, held := some { start := 0, expiry := none } }
    (leafAt false opened).leafDue 3 false = true ∧ (leafAt false { opened with passages := 1 }).leafDue 3 false = true
      ∧ (leafAt false { opened with leaf := .forced }).leafDue 3 false = true
      ∧ (leafAt false { released with position := .unknown }).leafDue 3 false = true
      ∧ (leafAt false held).leafDue 3 false = true ∧ (leafAt false { held with tailgate := false }).leafDue 3 false = true
      ∧ ((leafAt false opened).portalRec 3).beam = true := by decide
theorem test_witness_ExitButtonActs :
    let busy := { exitAt true { door with group := some 1 } shut with
      pins := { (exitAt true door shut).pins with
        straps := { up.pins.straps with ilOther := up.pins.straps.ilOther.set 1 true } } }
    ((exitAt true door shut).exitDue 3 true = true ∧ (exitAt true door shut).busyFor 3 = none)
      ∧ (busy.exitDue 3 true = true ∧ busy.busyFor 3 = some 2)
      ∧ (exitAt true door { shut with exit := .unknown }).exitDue 3 true = true
      ∧ (exitAt false door { shut with exit := .pressed }).exitDue 3 false = true := by decide
theorem test_witness_UnlockExpiryCommits :
    let s := withPortal up 3 { door with leafSensor := false } released
    s.unlockDue 3 = true ∧ s.portals[(3 : Fin 16)].leaf = .released ∧ (s.portalRec 3).leafSensor = false := by decide
theorem test_witness_PortalTimersExpire :
    let s := withPortal up 3 door released
    let h := { withPortal up 3 door { shut with leaf := .opened, held := some { start := 0, expiry := some 3000 } } with
      clock := { up.clock with tick := 3000 } }
    (s.unlockDue 3 = true ∧ s.portals[(3 : Fin 16)].leaf = .released ∧ (s.portalRec 3).leafSensor = true)
      ∧ (h.running = true ∧ h.portals[(3 : Fin 16)].leaf = .opened
        ∧ h.portals[(3 : Fin 16)].held = some { start := 0, expiry := some h.clock.tick }
        ∧ h.clock.tick = 0 + 30 * 100) := by decide
theorem test_witness_HoldModeHolds : atRest.acknowledges .office = true ∧ burning.egressUnderFire 3 = true := by decide
theorem test_witness_ReleaseHoldReleases :
    let s := withPortal up 3 door { shut with hold := some .free, mode := .free, leaf := .free, verdict := .inWindow }
    s.acknowledges .field = true ∧ s.acknowledges .office = true ∧ s.portals[(3 : Fin 16)].hold ≠ none
      ∧ s.portals[(4 : Fin 16)].hold = none ∧ s.portals[(3 : Fin 16)].mode = .free
      ∧ s.portals[(3 : Fin 16)].verdict = .inWindow := by decide
theorem test_witness_ModeTakesEffect :
    let s (q : Portal) := withPortal referred 3 door q
    atRest.effectiveMode 3 = atRest.portals[(3 : Fin 16)].mode
      ∧ (s { released with hold := some .free }).effectiveMode 3 = .free
      ∧ (s { shut with leaf := .forced, hold := some .free }).effectiveMode 3 = .free
      ∧ (s { shut with leaf := .held, hold := some .free }).effectiveMode 3 = .free
      ∧ (s { shut with mode := .free, leaf := .free }).effectiveMode 3 ≠ .free
      ∧ (s { released with hold := some .locked }).effectiveMode 3 = .locked
      ∧ (s released).journal.length + 2 + (s released).portals[(3 : Fin 16)].moves.length + (s released).referrals.length
          ≤ 512
      ∧ atRest.acknowledges .office = true := by decide
theorem test_witness_FireAndTamperFilters :
    up.sampling = true ∧ up.pins.fireHigh ≠ true ∧ up.running = true ∧ up.fire.latch = false ∧ up.pins.tamper ≠ true
      ∧ ({ up with fire := { up.fire with tamperFilter := some 0 } } : State).fire.tamperFilter = some up.clock.tick := by
  decide
theorem test_witness_FireOnsetFrees :
    let s := { withPortal up 3 { door with egress := true } released with
      pins := { up.pins with fireHigh := true }, fire := { up.fire with filter := some 0 } }
    s.running = true ∧ s.onsetDue = true ∧ (∀ p : Fin 16, s.portals[p].mode = .free → s.portals[p].leaf = .free)
      ∧ (s.portalRec 3).egress = true ∧ (s.portalRec 4).egress = false := by decide
theorem test_witness_FireClearMarks :
    let s := { burning with fire := { burning.fire with filter := some 0 } }
    let t := withPortal up 3 door { shut with recompute := true }
    s.running = true ∧ s.clearDue = true ∧ t.running = true ∧ t.portals[(3 : Fin 16)].recompute = true := by decide
theorem test_witness_RestoreBegins :
    let off (mark : Bool) : State :=
      { up with power := { main := false, resetAsserted := false }, clock := { up.clock with mark := mark } }
    ((off true).power.main = false ∧ (off true).power.resetAsserted = false ∧ (off true).clock.mark = true)
      ∧ (off false).clock.mark = false
      ∧ ({ up with power := { main := true, resetAsserted := true } } : State).power.resetAsserted = true := by decide
theorem test_witness_StoppingLosesVolatileState :
    up.power.main = true ∧ up.store.job = none ∧ up.power.resetAsserted = false
      ∧ (programmingSite false).store.job = some { task := .request, writes := [.site 9], verified := 0, retry := false }
      ∧ (supplied true true).pins.straps.vbat = true
      ∧ ((supplied true false).power.main = true ∧ (supplied true false).pins.straps.vbat = false)
      ∧ (supplied false true).power.main = false := by decide
theorem test_witness_RestoreCompletes :
    State.reset.sampling = true ∧ State.reset.store.phase = .restoring ∧ State.reset.journal = [] := by decide

end Sys2Proof.Tests
end

/-! PROOFS. SitePuts: what a put or drop leaves when it is refused and when a READY Store takes it, how the last slot's
verify completes a request, and PUT_SITE from its frame to its completion (R10, R11, R22). -/

namespace Sys2Proof.Machine

/-! ## Puts and drops at the Office Port (R10, R174) -/

/-- The event of a put or drop that its checks refuse: the Office Port is answered, and nothing else changes. -/
theorem done_takePut_refused {check : State → Except ResultCode (List SlotWrite)} {s : State} {r : ResultCode}
    (hack : s.acknowledges .office = true) (hwp : s.pins.straps.storeWp = false) (hcheck : check s = .error r) :
    done (takePut check s) = .next (State.drive { s with office := s.office.answered ⟨r, []⟩ }) := by
  rw [takePut_refused hack hwp hcheck]
  rfl

/-- A Store that programs nothing begins the slots of a put or drop that it takes. -/
theorem Store.takeRequest_idle {t : Store} (hjob : t.job = none) (writes : List SlotWrite) :
    t.takeRequest writes = t.begin .request writes := by
  simp [Store.takeRequest, hjob]

/-- The event of a put or drop that its checks let through, while the Store programs nothing. -/
theorem done_takePut_programming {check : State → Except ResultCode (List SlotWrite)} {s : State}
    {writes : List SlotWrite} (hack : s.acknowledges .office = true) (hwp : s.pins.straps.storeWp = false)
    (hjob : s.store.job = none) (hcheck : check s = .ok writes) :
    done (takePut check s) = .next (s.programming writes) := by
  rw [takePut_taken hack hwp hcheck, Store.takeRequest_idle hjob]
  rfl

/-! ## The last slot's verify (R11) -/

theorem exec_slotVerified (agrees : Bool) (s : State) :
    exec (.slotVerified agrees) s = done (whenRunning s (·.slotVerified agrees)) :=
  rfl

/-- While the part runs, SLOT_VERIFIED is the Store's verify. -/
theorem exec_slotVerified_running {s : State} (hrun : s.running = true) (agrees : Bool) :
    exec (.slotVerified agrees) s = .next (s.slotVerified agrees).drive := by
  simp [exec_slotVerified, whenRunning, hrun, done]

/-- The verify of a request's last slot programs that slot and completes the request. -/
theorem State.slotVerified_last_of_request {s : State} {writes : List SlotWrite} {k : Nat} {again : Bool}
    {w : SlotWrite} (hjob : s.store.job = some { task := .request, writes := writes, verified := k, retry := again })
    (hslot : writes[k]? = some w) (hlast : k + 1 = writes.length) :
    s.slotVerified true = State.completeRequest { s with store := s.store.program true w } writes := by
  simp [State.slotVerified, State.slotAgrees, hjob, hslot, hlast]

/-- Programming that ends with nothing waiting leaves the Store READY. -/
theorem Store.finish_of_not_waiting {t : Store} (hwait : t.waiting = none) :
    t.finish = { t with phase := .ready, job := none } := by
  simp [Store.finish, hwait]

/-- No credential leaves a mirror whose credential table stays, whatever the table's form. -/
theorem goneIds_of_credentials_eq {before after : Mirror} (h : after.credentials = before.credentials) :
    goneIds before after = [] := by
  have hkept : ∀ e ∈ before.credentials.entries, (after.credentials.find? e.1).isSome = true := by
    intro e he
    rw [h]
    exact findEntry_isSome he
  simpa [goneIds, List.filter_eq_nil_iff, Option.isSome_iff_ne_none] using hkept

/-- A PUT_SITE completes: the mirror takes the limit, no owner takes anything up, and no credential is handed over. -/
theorem State.completeRequest_site {s : State} (hwait : s.store.waiting = none) (n : Nat) :
    s.completeRequest [.site n] =
      { s with
        store := { s.store with phase := .ready, job := none, mirror := { s.store.mirror with siteLimit := n } }
        office := { s.office with busy := false, reply := some ⟨.ok, []⟩ } } := by
  have hgone : goneIds s.store.mirror { s.store.mirror with siteLimit := n } = [] := goneIds_of_credentials_eq rfl
  simp [State.completeRequest, takeUpWrite, Mirror.take, hgone, Store.finish_of_not_waiting, hwait,
    State.releaseOffice, State.modMirror, Reply.refusal]

/-! ## PUT_SITE (R22) -/

theorem exec_putSite (n : Nat) (s : State) : exec (.putSite n) s = done (takePut (checkPutSite n) s) := rfl

/-- PUT_SITE refuses a limit outside 1 to 256. -/
theorem checkPutSite_of_outside {n : Nat} (h : n = 0 ∨ 256 < n) (s : State) :
    checkPutSite n s = .error .badValue := by
  have hout : inRange n 1 256 = false := by
    simp only [inRange, Bool.and_eq_false_iff, decide_eq_false_iff_not]
    omega
  simp [checkPutSite, hout]

/-- PUT_SITE with a limit in 1 to 256 writes the site slot. -/
theorem checkPutSite_of_inside {n : Nat} (hlo : 1 ≤ n) (hhi : n ≤ 256) (s : State) :
    checkPutSite n s = .ok [.site n] := by
  simp [checkPutSite, inRange, hlo, hhi]

/-- The occupancy check of an arrival with no roster entry reads the mirror's limit. -/
theorem State.checkFull_eq_full_iff {s : State} {id : Nat} (hentry : s.entryOf id = none) :
    s.checkFull id = some .full ↔ s.store.mirror.siteLimit ≤ s.roster.length + s.pendingArrivals := by
  unfold State.checkFull State.onSite
  simp [hentry]

/-- The verify of a site slot is one event from PROGRAMMING to READY. -/
theorem exec_slotVerified_site {s : State} {n : Nat} (hrun : s.running = true) (hwait : s.store.waiting = none)
    (hjob : s.store.job = some { task := .request, writes := [.site n], verified := 0, retry := false }) :
    exec (.slotVerified true) s =
      .next (State.drive
        { s with
          store :=
            { s.store with
              phase := .ready
              job := none
              slots := { s.store.slots with site := some (.valid n) }
              mirror := { s.store.mirror with siteLimit := n } }
          office := { s.office with busy := false, reply := some ⟨.ok, []⟩ } }) := by
  rw [exec_slotVerified_running hrun, State.slotVerified_last_of_request hjob rfl rfl, State.completeRequest_site]
  · rfl
  · exact hwait

/-- Settles O27: the two checks of the operand, the verify of the single slot, and the limit that the occupancy check
reads. -/
theorem sitePutsComplete : Obligations.SitePutsComplete := by
  intro s n
  refine ⟨?refused, ?taken, ?completed, ?full⟩
  case refused =>
    intro hack hwp hout
    rw [exec_putSite, done_takePut_refused hack hwp (checkPutSite_of_outside hout s)]
  case taken =>
    intro hack hwp hjob hlo hhi
    rw [exec_putSite, done_takePut_programming hack hwp hjob (checkPutSite_of_inside hlo hhi s)]
  case completed => exact exec_slotVerified_site
  case full => exact fun _ => State.checkFull_eq_full_iff

end Sys2Proof.Machine

/-! PROOFS. Windows: the day class of a day, when a window admits, which profile a number names, and when a profile's
window verdict is IN (R35, R36, R37). -/

namespace Sys2Proof.Machine

/-! ## Day classes (R35) -/

theorem dayClass_eq (m : Mirror) (day : Nat) : dayClass m day = if day ∈ m.holidays then 7 else day % 7 := by
  simp [dayClass]

/-- A day class is one of the eight of a class set. -/
theorem dayClass_lt_eight (m : Mirror) (day : Nat) : dayClass m day < 8 := by
  rw [dayClass_eq]
  split
  case isTrue => decide
  case isFalse => omega

/-! ## Windows and the profile of a number (R6, R36) -/

theorem windowAdmits_iff {cls minute : Nat} {w : Window} :
    windowAdmits cls minute w = true ↔
      w.classes.getLsbD cls = true ∧ w.openMinute ≤ minute ∧ minute < w.closeMinute := by
  simp [windowAdmits, and_assoc]

/-- The window of profile 15: it lists every day class and is open from the first minute of the day to the last. -/
theorem windowAdmits_allDay {cls minute : Nat} (hcls : cls < 8) (hminute : minute < 1440) :
    windowAdmits cls minute { classes := 0xFF, openMinute := 0, closeMinute := 1440 } = true := by
  have hlisted : (0xFF#8).getLsbD cls = true := by
    have hall : ∀ c < 8, (0xFF#8).getLsbD c = true := by decide
    exact hall cls hcls
  exact windowAdmits_iff.mpr ⟨hlisted, Nat.zero_le _, hminute⟩

@[simp] theorem profileOf_fifteen_windows (m : Mirror) :
    (profileOf m 15).windows = [{ classes := 0xFF, openMinute := 0, closeMinute := 1440 }] := rfl

/-- A profile that no slot gave has no windows. -/
theorem profileOf_windows_of_absent {m : Mirror} {n : Nat} (hn : n ≠ 15) (habsent : m.profiles.find? n = none) :
    (profileOf m n).windows = [] := by
  simp [profileOf, hn, habsent, ProfileRec.initial]

/-! ## Window verdicts (R36, R37) -/

theorem Verdict.ne_inWindow_iff {v : Verdict} : v ≠ .inWindow ↔ v = .outWindow := by
  cases v <;> decide

/-- A verdict is IN exactly when the clock does not force it OUT and a window of the profile admits. -/
theorem State.verdict_eq_inWindow_iff {s : State} {n : Nat} :
    s.verdict n = .inWindow ↔
      (s.clock.valid = true ∨ n = 15) ∧
        ∃ w ∈ (profileOf s.store.mirror n).windows,
          windowAdmits (dayClass s.store.mirror s.clock.day) s.clock.minute w = true := by
  by_cases hforced : s.clock.valid = false ∧ n ≠ 15
  · simp [State.verdict, hforced]
  · have hfree : s.clock.valid = true ∨ n = 15 := by
      simpa [or_iff_not_imp_left] using hforced
    obtain hvalid | rfl := hfree
    · simp [State.verdict, hvalid]
    · simp [State.verdict]

/-- Under an UNSET clock every profile but 15 is OUT. -/
theorem State.verdict_of_unset {s : State} {n : Nat} (hunset : s.clock.valid = false) (hn : n ≠ 15) :
    s.verdict n = .outWindow := by
  rw [← Verdict.ne_inWindow_iff, Ne, State.verdict_eq_inWindow_iff]
  simp [hunset, hn]

/-- A profile without windows is OUT in either clock state. -/
theorem State.verdict_of_no_windows {s : State} {n : Nat} (hnone : (profileOf s.store.mirror n).windows = []) :
    s.verdict n = .outWindow := by
  rw [← Verdict.ne_inWindow_iff, Ne, State.verdict_eq_inWindow_iff]
  simp [hnone]

/-- Profile 15 is IN at every minute of every day, in either clock state. -/
theorem State.verdict_fifteen {s : State} (hminute : s.clock.minute < 1440) : s.verdict 15 = .inWindow :=
  State.verdict_eq_inWindow_iff.mpr
    ⟨.inr rfl, _, by simp, windowAdmits_allDay (dayClass_lt_eight s.store.mirror s.clock.day) hminute⟩

/-- Settles O24: each clause from the condition for a verdict to be IN, and the class from the holiday list. -/
theorem windowVerdict : Obligations.WindowVerdict := by
  intro s n
  refine ⟨State.verdict_of_unset, ?valid, ?either, ?absent, State.verdict_fifteen, dayClass_eq s.store.mirror⟩
  case valid =>
    intro hvalid
    simp only [State.verdict_eq_inWindow_iff, windowAdmits_iff, hvalid, true_or, true_and]
  case either => exact or_iff_not_imp_left.mpr Verdict.ne_inWindow_iff.mp
  case absent => exact fun hn habsent => State.verdict_of_no_windows (profileOf_windows_of_absent hn habsent)

end Sys2Proof.Machine

/-! PROOFS. RosterDrops: what the removal of an entry leaves of the roster and the cars, what a commit does to a holder
with no entry, and DROP_ROSTER_ENTRY from its checks to the moves that commit after it (R67, R68, R79). -/

namespace Sys2Proof.Machine

/-! ## The entry of a credential (R66) -/

/-- The entry read depends on the roster alone. -/
theorem State.entryOf_congr {s t : State} (hroster : t.roster = s.roster) (id : Nat) : t.entryOf id = s.entryOf id := by
  simp [State.entryOf, hroster]

@[simp] theorem State.endFrame_entryOf (s : State) (p : Port) (id : Nat) : (s.endFrame p).entryOf id = s.entryOf id :=
  State.entryOf_congr (s.endFrame_roster p) id

/-- A credential whose entries have been taken out of the list has no entry. -/
theorem State.entryOf_eq_none_of_filtered {s : State} {id : Nat} {l : List RosterEntry}
    (hroster : s.roster = l.filter (fun e => e.id != id)) : s.entryOf id = none := by
  simp [State.entryOf, hroster]

/-! ## Removal of an entry (R68, R71, R130) -/

@[simp] theorem Car.settleSession_passengers (c : Car) : c.settleSession.passengers = c.passengers := by
  unfold Car.settleSession
  split <;> rfl

@[simp] theorem Car.remove_passengers (c : Car) (id : Nat) :
    (c.remove id).passengers = c.passengers.filter (fun q => q.id != id) :=
  Car.settleSession_passengers _

/-- The entry of a holder in no car leaves the list, and nothing else changes. -/
theorem State.removeEntry_of_no_car {s : State} {id : Nat} (hcar : (s.entryOf id).bind (·.car) = none) :
    s.removeEntry id = { s with roster := s.roster.filter (fun e => e.id != id) } := by
  simp [State.removeEntry, hcar]

/-- The entry of a holder in a car leaves the list, and that car removes the passenger. -/
theorem State.removeEntry_of_car {s : State} {id : Nat} {c : Fin 4} (hcar : (s.entryOf id).bind (·.car) = some c) :
    s.removeEntry id =
      State.modCar { s with roster := s.roster.filter (fun e => e.id != id) } c (·.remove id) := by
  simp [State.removeEntry, hcar]

@[simp] theorem State.removeEntry_roster (s : State) (id : Nat) :
    (s.removeEntry id).roster = s.roster.filter (fun e => e.id != id) := by
  cases hcar : (s.entryOf id).bind (·.car) with
  | none => rw [State.removeEntry_of_no_car hcar]
  | some c => rw [State.removeEntry_of_car hcar, State.modCar_roster]

/-! ## A commit for a holder with no entry (R67, R68) -/

/-- In either fire state, a move that is no arrival gives a holder with no entry none. -/
theorem State.commit_of_no_entry {s : State} {m : Move} (hentry : s.entryOf m.id = none) (hmove : m.arrival = false) :
    s.commit m = s := by
  simp [State.commit, State.applyMove, hentry, hmove]

/-- An arrival under a CLEAR fire state puts a holder with no entry at the end of the list. -/
theorem State.commit_arrival_roster {s : State} {m : Move} (hclear : s.fire.active = false)
    (hentry : s.entryOf m.id = none) (hmove : m.arrival = true) :
    (s.commit m).roster = s.roster ++ [s.newEntry m.id m.toZone] := by
  simp [State.commit, State.applyMove, State.createEntry, hclear, hentry, hmove]

/-! ## The checks of DROP_ROSTER_ENTRY (R79) -/

theorem idInRange_iff {id : Nat} : idInRange id = true ↔ 1 ≤ id ∧ id ≤ 4294967294 := by
  simp [idInRange, inRange]

theorem dropRosterEntry_of_outside {id : Nat} (hout : id = 0 ∨ 4294967294 < id) (s : State) :
    dropRosterEntry id s = (s, Reply.refusal .badValue) := by
  have hrange : ¬ idInRange id = true := by
    rw [idInRange_iff]
    omega
  simp [dropRosterEntry, hrange]

theorem dropRosterEntry_of_no_entry {id : Nat} {s : State} (hrange : idInRange id = true)
    (hentry : s.entryOf id = none) : dropRosterEntry id s = (s, Reply.refusal .notFound) := by
  simp [dropRosterEntry, hrange, hentry]

theorem dropRosterEntry_of_entry {id : Nat} {s : State} {e : RosterEntry} (hrange : idInRange id = true)
    (hentry : s.entryOf id = some e) :
    dropRosterEntry id s = ((s.removeEntry id).noteDropped (some id) 0, Reply.done []) := by
  simp [dropRosterEntry, hrange, hentry]

/-! ## The event of DROP_ROSTER_ENTRY -/

theorem exec_dropRosterEntry (id : Nat) (s : State) :
    exec (.dropRosterEntry id) s = done (request .office s (dropRosterEntry id)) :=
  rfl

/-- The event of an Office request whose owner leaves the state as it is: the port is answered, and nothing else
changes. -/
theorem done_request_office_reads {s : State} {owner : State → State × Reply} {r : Reply}
    (hack : s.acknowledges .office = true) (howner : owner (s.endFrame .office) = (s.endFrame .office, r)) :
    done (request .office s owner) = .next (State.drive { s with office := s.office.answered r }) := by
  rw [request_reads hack howner]
  rfl

/-- The state in which a DROP_ROSTER_ENTRY that its checks let through leaves the part. -/
def State.afterRosterDrop (s : State) (id : Nat) : State :=
  ((((s.endFrame .office).removeEntry id).noteDropped (some id) 0).holdReply .office ⟨.ok, []⟩).drive

theorem exec_dropRosterEntry_of_entry {s : State} {id : Nat} {e : RosterEntry} (hack : s.acknowledges .office = true)
    (hrange : idInRange id = true) (hentry : s.entryOf id = some e) :
    exec (.dropRosterEntry id) s = .next (s.afterRosterDrop id) := by
  have hframed : (s.endFrame .office).entryOf id = some e := by simpa using hentry
  rw [exec_dropRosterEntry, request_performed _ hack, dropRosterEntry_of_entry hrange hframed]
  rfl

/-! ## What the drop changes, and what it leaves -/

theorem State.afterRosterDrop_roster (s : State) (id : Nat) :
    (s.afterRosterDrop id).roster = s.roster.filter (fun e => e.id != id) := by
  simp [State.afterRosterDrop, State.noteDropped]

/-- The cars are those that the removal of the entry leaves. -/
theorem State.afterRosterDrop_cars (s : State) (id : Nat) :
    (s.afterRosterDrop id).cars = ((s.endFrame .office).removeEntry id).cars := by
  simp [State.afterRosterDrop, State.noteDropped]

theorem State.afterRosterDrop_cars_of_no_car {s : State} {id : Nat} {e : RosterEntry} (hentry : s.entryOf id = some e)
    (hcar : e.car = none) : (s.afterRosterDrop id).cars = s.cars := by
  rw [State.afterRosterDrop_cars, State.removeEntry_of_no_car (by simp [hentry, hcar])]
  exact s.endFrame_cars .office

theorem State.afterRosterDrop_cars_of_car {s : State} {id : Nat} {e : RosterEntry} {c : Fin 4}
    (hentry : s.entryOf id = some e) (hcar : e.car = some c) :
    (s.afterRosterDrop id).cars = (s.modCar c (·.remove id)).cars := by
  rw [State.afterRosterDrop_cars, State.removeEntry_of_car (c := c) (by simp [hentry, hcar])]
  rfl

/-- The record carries the id, a count of 0, and the site time, which the drop does not move. -/
theorem State.afterRosterDrop_getLast? (s : State) (id : Nat) :
    (s.afterRosterDrop id).journal.getLast? =
      some { s.blankRecord .rosterDropped with id := some id, count := some 0 } := by
  simp [State.afterRosterDrop, State.noteDropped, State.blankRecord]

theorem State.afterRosterDrop_reply (s : State) (id : Nat) : (s.afterRosterDrop id).office.reply = some ⟨.ok, []⟩ :=
  rfl

/-- The drop touches the roster, the cars, the journal, the Office Port and the output pins alone. -/
theorem State.afterRosterDrop_frame (s : State) (id : Nat) :
    s.afterRosterDrop id =
      { s with
        roster := (s.afterRosterDrop id).roster, cars := (s.afterRosterDrop id).cars
        journal := (s.afterRosterDrop id).journal, office := (s.afterRosterDrop id).office
        outs := (s.afterRosterDrop id).outs } := by
  apply State.eq_of_fields
  case roster | cars | journal | office | outs => rfl
  all_goals simp [State.afterRosterDrop, State.noteDropped, State.holdReply, State.endFrame]

/-- A move of the holder that commits after the drop finds no entry. -/
theorem State.afterRosterDrop_entryOf (s : State) (id : Nat) : (s.afterRosterDrop id).entryOf id = none :=
  State.entryOf_eq_none_of_filtered (s.afterRosterDrop_roster id)

/-- Settles O43: the two refusals from the checks, the drop from the removal of the entry, and the later commits from
the holder's missing entry. -/
theorem dropRosterEntryRemoves : Obligations.DropRosterEntryRemoves := by
  intro s id hack
  refine ⟨?outside, ?absent, ?dropped⟩
  case outside =>
    intro hout
    rw [exec_dropRosterEntry]
    exact done_request_office_reads hack (dropRosterEntry_of_outside hout _)
  case absent =>
    intro hlo hhi hentry
    have hframed : (s.endFrame .office).entryOf id = none := by simpa using hentry
    rw [exec_dropRosterEntry]
    exact done_request_office_reads hack (dropRosterEntry_of_no_entry (idInRange_iff.mpr ⟨hlo, hhi⟩) hframed)
  case dropped =>
    intro e hlo hhi hentry
    refine ⟨s.afterRosterDrop id, exec_dropRosterEntry_of_entry hack (idInRange_iff.mpr ⟨hlo, hhi⟩) hentry,
      s.afterRosterDrop_roster id, State.afterRosterDrop_cars_of_no_car hentry, ?rider, s.afterRosterDrop_getLast? id,
      s.afterRosterDrop_reply id, s.afterRosterDrop_frame id, ?move, ?arrival⟩
    case rider =>
      intro c hcar
      rw [State.afterRosterDrop_cars_of_car hentry hcar]
      exact ⟨by rw [State.modCar_self, Car.remove_passengers], fun d hother => s.modCar_other c d _ hother.symm⟩
    case move =>
      rintro m rfl hmove
      exact State.commit_of_no_entry (s.afterRosterDrop_entryOf m.id) hmove
    case arrival =>
      rintro m rfl hmove hclear
      rw [State.commit_arrival_roster hclear (s.afterRosterDrop_entryOf m.id) hmove]
      simp [State.newEntry]

end Sys2Proof.Machine

/-! PROOFS. Strikes: every command ends in an event whose output pins follow the state, and what a strike line then
shows of its leaf state and polarity (R84). -/

namespace Sys2Proof.Machine

/-! ## Every command drives the output pins (log entry 28) -/

/-- A request that a frame spells ends in an event. -/
theorem performRequest_eq_done (i : Instr) (s : State) : ∃ u, performRequest i s = done u := by
  cases i <;> exact ⟨_, rfl⟩

/-- A write frame ends in an event, whichever way it is judged. -/
theorem execWriteFrame_eq_done (p : Port) (bytes : List Byte) (s : State) :
    ∃ u, execWriteFrame p bytes s = done u := by
  unfold execWriteFrame
  split
  case isFalse => exact ⟨s, rfl⟩
  case isTrue =>
    split
    case h_1 => exact ⟨s.endFrame p, rfl⟩
    case h_2 r _ => exact ⟨s.refuseFrame p r, rfl⟩
    case h_3 i _ => exact performRequest_eq_done i s

/-- A read frame ends in an event, whether or not the port acknowledges it. -/
theorem execReadFrame_eq_done (p : Port) (count : Nat) (ended : Bool) (s : State) :
    ∃ u, execReadFrame p count ended s = done u := by
  unfold execReadFrame
  split <;> exact ⟨_, rfl⟩

/-- Every command ends in an event. -/
theorem exec_eq_done (c : Instr) (s : State) : ∃ u, exec c s = done u := by
  cases c
  case writeFrame p bytes => exact execWriteFrame_eq_done p bytes s
  case readFrame p count ended => exact execReadFrame_eq_done p count ended s
  all_goals exact ⟨_, rfl⟩

/-- Driven output pins follow the state. -/
theorem State.drive_outputsFollow (s : State) : OutputsFollow s.drive := rfl

/-- After every command, whatever state it found, the output pins follow the state. -/
theorem exec_outputsFollow {c : Instr} {s t : State} (h : exec c s = .next t) : OutputsFollow t := by
  obtain ⟨u, hu⟩ := exec_eq_done c s
  rw [hu, done_eq] at h
  subst h
  exact u.drive_outputsFollow

/-! ## Strike lines (R84) -/

/-- A strike line is at the level that the state asks for. -/
theorem OutputsFollow.strike {s : State} (h : OutputsFollow s) (p : Fin 16) : s.outs.strike[p] = s.strikeLevel p := by
  unfold OutputsFollow at h
  simp [h, State.outputs]

/-- While the part runs, the leaf state chooses between the two levels of the polarity. -/
theorem State.strikeLevel_running {s : State} (hrun : s.running = true) (p : Fin 16) :
    s.strikeLevel p =
      if s.portals[p].leaf = .released ∨ s.portals[p].leaf = .free then releaseLevel (s.portalRec p)
      else secureLevel (s.portalRec p) := by
  unfold State.strikeLevel releaseLevel secureLevel
  cases (s.portalRec p).polarity <;> simp [hrun]

theorem State.strikeLevel_stopped {s : State} (hstop : s.running = false) (p : Fin 16) :
    s.strikeLevel p = .undriven := by
  simp [State.strikeLevel, hstop]

/-- Settles O12: the pins follow the state after every command, and the level that the state asks for is read off in
the three cases. -/
theorem strikesFollowLeaves : Obligations.StrikesFollowLeaves := by
  intro c s t h
  have hfollow : OutputsFollow t := exec_outputsFollow h
  refine ⟨?running, ?stopped, ?polarity⟩
  case running => exact fun hrun p => (hfollow.strike p).trans (State.strikeLevel_running hrun p)
  case stopped => exact fun hstop p => (hfollow.strike p).trans (State.strikeLevel_stopped hstop p)
  case polarity =>
    intro r
    constructor <;> intro hpol <;> simp [releaseLevel, secureLevel, hpol]

end Sys2Proof.Machine

/-! PROOFS. UnlockExpiry: what a commit leaves of the Store, that it does not look at the portals, and the unlock
timer's expiry at a portal with no leaf sensor (R23, R83, R88). -/

namespace Sys2Proof.Machine

/-! ## What a commit leaves of the Store (R23, R69) -/

/-- A write-back mark changes the marks alone. -/
@[simp] theorem Store.mark_frame (t : Store) (id : Nat) :
    (t.mark id).phase = t.phase ∧ (t.mark id).slots = t.slots ∧ (t.mark id).mirror = t.mirror
      ∧ (t.mark id).job = t.job ∧ (t.mark id).waiting = t.waiting ∧ (t.mark id).duplicates = t.duplicates := by
  unfold Store.mark
  split <;> simp

/-- Spending a budget leaves the Store's phase and the portal records. -/
theorem State.spendBudget_store (s : State) (id : Nat) :
    (s.spendBudget id).store.phase = s.store.phase
      ∧ (s.spendBudget id).store.mirror.portals = s.store.mirror.portals := by
  unfold State.spendBudget
  repeat' split
  all_goals simp

/-- Of all that a commit does, the spending of a created entry's budget alone reaches the Store. -/
theorem State.commit_store (s : State) (m : Move) :
    (s.commit m).store.phase = s.store.phase ∧ (s.commit m).store.mirror.portals = s.store.mirror.portals := by
  unfold State.commit State.applyMove State.createEntry
  repeat' split
  case h_1.isTrue => exact State.spendBudget_store _ _
  all_goals simp

theorem State.commitAll_phase (s : State) (ms : List Move) : (s.commitAll ms).store.phase = s.store.phase :=
  foldl_keeps (·.store.phase) State.commit (fun s m => (s.commit_store m).1) ms s

theorem State.commitAll_portalRec (s : State) (ms : List Move) (p : Fin 16) :
    (s.commitAll ms).portalRec p = s.portalRec p := by
  have hrecs : (s.commitAll ms).store.mirror.portals = s.store.mirror.portals :=
    foldl_keeps (·.store.mirror.portals) State.commit (fun s m => (s.commit_store m).2) ms s
  unfold State.portalRec
  rw [hrecs]

/-- Commits do not stop the part. -/
theorem State.commitAll_running (s : State) (ms : List Move) : (s.commitAll ms).running = s.running := by
  simp [State.running, State.commitAll_phase]

/-! ## A commit does not look at the portals -/

theorem State.spendBudget_modPortal (s : State) (p : Fin 16) (f : Portal → Portal) (id : Nat) :
    (s.modPortal p f).spendBudget id = (s.spendBudget id).modPortal p f := by
  unfold State.spendBudget
  simp only [State.modPortal_store]
  repeat' split
  all_goals rfl

theorem State.createEntry_modPortal (s : State) (p : Fin 16) (f : Portal → Portal) (id zone : Nat) :
    (s.modPortal p f).createEntry id zone = (s.createEntry id zone).modPortal p f :=
  State.spendBudget_modPortal { s with roster := s.roster ++ [s.newEntry id zone] } p f id

theorem State.removeEntry_modPortal (s : State) (p : Fin 16) (f : Portal → Portal) (id : Nat) :
    (s.modPortal p f).removeEntry id = (s.removeEntry id).modPortal p f := by
  have hentry : (s.modPortal p f).entryOf id = s.entryOf id := State.entryOf_congr (s.modPortal_roster p f) id
  cases hcar : (s.entryOf id).bind (·.car) with
  | none =>
    rw [State.removeEntry_of_no_car hcar, State.removeEntry_of_no_car (hentry ▸ hcar)]
    rfl
  | some c =>
    rw [State.removeEntry_of_car hcar, State.removeEntry_of_car (hentry ▸ hcar)]
    rfl

theorem State.commit_modPortal (s : State) (p : Fin 16) (f : Portal → Portal) (m : Move) :
    (s.modPortal p f).commit m = (s.commit m).modPortal p f := by
  have hentry : (s.modPortal p f).entryOf m.id = s.entryOf m.id := State.entryOf_congr (s.modPortal_roster p f) m.id
  unfold State.commit State.applyMove
  rw [State.modPortal_fire, hentry]
  repeat' split
  · rfl
  · exact s.createEntry_modPortal p f m.id m.toZone
  · rfl
  · exact s.removeEntry_modPortal p f m.id
  · rfl

/-- Commits after a portal's change are the change after the commits. -/
theorem State.commitAll_modPortal (s : State) (p : Fin 16) (f : Portal → Portal) (ms : List Move) :
    (s.modPortal p f).commitAll ms = (s.commitAll ms).modPortal p f :=
  List.foldl_hom (State.modPortal · p f) fun s m => s.commit_modPortal p f m

/-! ## The expiry (R88) -/

/-- A release that lapses where no leaf sensor is fitted commits its moves and ends the cycle. -/
theorem State.lapse_of_no_sensor {s : State} {p : Fin 16} (hsensor : (s.portalRec p).leafSensor = false) :
    s.lapse p = (s.commitAll s.portals[p].moves).modPortal p (Portal.endCycle .secure) := by
  simp [State.lapse, hsensor, State.commitAll_modPortal]

theorem exec_unlockExpiry (p : Fin 16) (s : State) :
    exec (.unlockExpiry p) s = done (timed (·.unlockDue p) (·.expireUnlock p) s) :=
  rfl

/-- The unlock timer's expiry at a RELEASED portal lets its release lapse. -/
theorem exec_unlockExpiry_released {s : State} {p : Fin 16} (hdue : s.unlockDue p = true)
    (hleaf : s.portals[p].leaf = .released) : exec (.unlockExpiry p) s = .next (s.lapse p).drive := by
  rw [exec_unlockExpiry, timed_due (due := (·.unlockDue p)) hdue, State.expireUnlock, if_pos hleaf]
  rfl

/-- Unlock expiry of a portal asks that the part runs. -/
theorem State.running_of_unlockDue {s : State} {p : Fin 16} (hdue : s.unlockDue p = true) : s.running = true := by
  simp only [State.unlockDue, Bool.and_eq_true] at hdue
  exact hdue.1

/-- A SECURE portal of a running part stands at secure level. -/
theorem State.strikeLevel_secure {s : State} {p : Fin 16} (hrun : s.running = true)
    (hleaf : s.portals[p].leaf = .secure) : s.strikeLevel p = secureLevel (s.portalRec p) := by
  rw [State.strikeLevel_running hrun, if_neg (by rw [hleaf]; simp)]

/-- The cycle of a RELEASED portal with no leaf sensor has ended: the state in which UNLOCK_EXPIRY leaves the part. -/
def State.afterUnlockExpiry (s : State) (p : Fin 16) : State :=
  ((s.commitAll s.portals[p].moves).modPortal p (Portal.endCycle .secure)).drive

theorem exec_unlockExpiry_of_no_sensor {s : State} {p : Fin 16} (hdue : s.unlockDue p = true)
    (hleaf : s.portals[p].leaf = .released) (hsensor : (s.portalRec p).leafSensor = false) :
    exec (.unlockExpiry p) s = .next (s.afterUnlockExpiry p) := by
  rw [exec_unlockExpiry_released hdue hleaf, State.lapse_of_no_sensor hsensor]
  rfl

/-- The portal is SECURE with nothing left of its cycle. -/
theorem State.afterUnlockExpiry_self (s : State) (p : Fin 16) :
    (s.afterUnlockExpiry p).portals[p] = s.portals[p].endCycle .secure := by
  simp [State.afterUnlockExpiry]

theorem State.afterUnlockExpiry_other (s : State) {p q : Fin 16} (hother : q ≠ p) :
    (s.afterUnlockExpiry p).portals[q] = s.portals[q] := by
  simp [State.afterUnlockExpiry, State.modPortal_val_other, hother]

/-- The strike of the portal that is SECURE again stands at secure level. -/
theorem State.afterUnlockExpiry_strike {s : State} {p : Fin 16} (hrun : s.running = true) :
    (s.afterUnlockExpiry p).outs.strike[p] = secureLevel (s.portalRec p) := by
  have hfollow : OutputsFollow (s.afterUnlockExpiry p) := State.drive_outputsFollow _
  have hstill : (s.afterUnlockExpiry p).running = true := (s.commitAll_running _).trans hrun
  have hleaf : (s.afterUnlockExpiry p).portals[p].leaf = .secure := by
    rw [State.afterUnlockExpiry_self]
    rfl
  have hrec : (s.afterUnlockExpiry p).portalRec p = s.portalRec p := s.commitAll_portalRec _ p
  rw [hfollow.strike, State.strikeLevel_secure hstill hleaf, hrec]

/-- The expiry touches the portals, the roster, the cars, the Store and the output pins alone: no record is appended. -/
theorem State.afterUnlockExpiry_frame (s : State) (p : Fin 16) :
    s.afterUnlockExpiry p =
      { s with
        portals := (s.afterUnlockExpiry p).portals, roster := (s.afterUnlockExpiry p).roster
        cars := (s.afterUnlockExpiry p).cars, store := (s.afterUnlockExpiry p).store
        outs := (s.afterUnlockExpiry p).outs } := by
  apply State.eq_of_fields
  case portals | roster | cars | store | outs => rfl
  all_goals simp [State.afterUnlockExpiry]

/-- Settles O50: the expiry commits the moves and ends the cycle, and each item is read off the state that this
leaves. -/
theorem unlockExpiryCommits : Obligations.UnlockExpiryCommits := by
  intro s p hdue hleaf hsensor
  have hself := s.afterUnlockExpiry_self p
  exact ⟨s.afterUnlockExpiry p, exec_unlockExpiry_of_no_sensor hdue hleaf hsensor, by rw [hself]; rfl,
    State.afterUnlockExpiry_strike (State.running_of_unlockDue hdue), rfl, rfl, rfl, by rw [hself]; rfl,
    by rw [hself]; rfl, by rw [hself]; rfl, by rw [hself]; rfl, by rw [hself]; rfl,
    fun q hother => s.afterUnlockExpiry_other hother, s.afterUnlockExpiry_frame p⟩

end Sys2Proof.Machine

/-! PROOFS. HoldReleases: what a new effective mode leaves of its portal's mode and hold, the refusals of RELEASE_HOLD,
and the recomputation that follows the removal of a hold (R99, R100, R105). -/

namespace Sys2Proof.Machine

/-! ## The mode and hold of a portal that takes a new mode (R100 to R103) -/

@[simp] theorem Portal.endCycle_mode (l : LeafState) (q : Portal) : (q.endCycle l).mode = q.mode := rfl
@[simp] theorem Portal.endCycle_hold (l : LeafState) (q : Portal) : (q.endCycle l).hold = q.hold := rfl
@[simp] theorem Portal.foundOpen_mode (h : HeldTimer) (q : Portal) : (q.foundOpen h).mode = q.mode := rfl
@[simp] theorem Portal.foundOpen_hold (h : HeldTimer) (q : Portal) : (q.foundOpen h).hold = q.hold := rfl

/-- Freeing a portal ends its cycle. -/
@[simp] theorem State.freePortal_val (s : State) (p : Fin 16) :
    (s.freePortal p).portals[p.val] = s.portals[p.val].endCycle .free := by
  unfold State.freePortal
  simp only
  split <;> simp

/-- A lapse ends the portal's cycle, whether its moves commit or are discarded. -/
@[simp] theorem State.lapse_val (s : State) (p : Fin 16) :
    (s.lapse p).portals[p.val] = s.portals[p.val].endCycle .secure := by
  unfold State.lapse
  simp only
  split <;> simp

/-- A portal that leaves FREE keeps its mode and its hold. -/
@[simp] theorem State.leaveFree_val (s : State) (p : Fin 16) :
    (s.leaveFree p).portals[p.val].mode = s.portals[p.val].mode
      ∧ (s.leaveFree p).portals[p.val].hold = s.portals[p.val].hold := by
  unfold State.leaveFree
  split <;> simp

/-- A new effective mode stands at its portal, and the hold stays. -/
theorem State.enterMode_val (s : State) (p : Fin 16) (m : Mode) :
    (s.enterMode p m).portals[p.val].mode = m
      ∧ (s.enterMode p m).portals[p.val].hold = s.portals[p.val].hold := by
  unfold State.enterMode
  simp only
  split
  case isTrue => simp
  case isFalse =>
    split
    case isTrue => simp
    case isFalse => split <;> simp

/-- After a recomputation the portal's mode is the effective one. -/
theorem State.recomputeMode_mode (s : State) (p : Fin 16) :
    (s.recomputeMode p).portals[p].mode = s.effectiveMode p := by
  unfold State.recomputeMode
  split
  case isTrue hsame => exact hsame.symm
  case isFalse => exact (s.enterMode_val p _).1

theorem State.recomputeMode_hold (s : State) (p : Fin 16) :
    (s.recomputeMode p).portals[p].hold = s.portals[p].hold := by
  unfold State.recomputeMode
  split
  case isTrue => rfl
  case isFalse => exact (s.enterMode_val p _).2

/-- A recomputation that finds the mode it computes changes nothing. -/
theorem State.recomputeMode_of_same {s : State} {p : Fin 16} (hsame : s.effectiveMode p = s.portals[p].mode) :
    s.recomputeMode p = s :=
  if_pos hsame

/-! ## The Field Port refuses the frame of an Office request (R173, R176) -/

/-- A whole frame of at most 60 operands is judged by its code and its operands: its length and its check byte are
right. -/
theorem judgeFrame_frameOf (p : Port) (code : Nat) {operands : List Byte} (hlength : operands.length ≤ 60) :
    judgeFrame p (frameOf code operands) = judgeRequest p (BitVec.ofNat 8 code).toNat operands := by
  have hcount : (BitVec.ofNat 8 operands.length).toNat = operands.length := by
    rw [BitVec.toNat_ofNat]
    omega
  have hsum : sumOf (frameOf code operands) = 0 := Laws.Wire.sumOf_withCheck _
  have hshort : ¬ 63 < operands.length + 3 := by omega
  have hfits : ¬ 60 < operands.length := by omega
  simp only [frameOf, withCheck, List.cons_append, List.nil_append] at hsum ⊢
  simp [judgeFrame, hsum, hcount, hshort, hfits, Config.frameBufferCapacity, Config.operandCapacity]

/-- A write frame that is refused for another reason than its check byte is answered, and nothing else changes. -/
theorem exec_writeFrame_refused {s : State} {p : Port} {bytes : List Byte} {r : ResultCode}
    (hack : s.acknowledges p = true) (hjudge : judgeFrame p bytes = .refused r) (hcheck : r ≠ .check) :
    FrameRefused s p bytes r := by
  have hexec : exec (.writeFrame p bytes) s = execWriteFrame p bytes s := rfl
  rw [FrameRefused, hexec, execWriteFrame, if_pos hack, hjudge]
  simp only [State.refuseFrame, if_neg hcheck]
  cases p <;> rfl

theorem judgeFrame_field_releaseHold (n : Nat) :
    judgeFrame .field (frameOf 0x22 (byte1 n)) = .refused .notPermitted := by
  rw [judgeFrame_frameOf .field 0x22 (by simp [byte1])]
  rfl

/-! ## The checks of RELEASE_HOLD (R105) -/

theorem portal?_of_outside {n : Nat} (hout : 15 < n) : portal? n = none :=
  dif_neg (by omega)

@[simp] theorem portal?_val (p : Fin 16) : portal? p.val = some p :=
  dif_pos p.isLt

theorem releaseHold_of_outside {n : Nat} (hout : 15 < n) (s : State) :
    releaseHold n s = (s, Reply.refusal .badValue) := by
  simp [releaseHold, portal?_of_outside hout]

theorem releaseHold_of_no_hold {s : State} {p : Fin 16} (hnone : s.portals[p].hold = none) :
    releaseHold p.val s = (s, Reply.refusal .notFound) := by
  simp only [releaseHold, portal?_val, hnone, Option.isNone_none, if_true]

/-- The removal of a portal's hold, with the recomputation that follows it. -/
def State.dropHold (s : State) (p : Fin 16) : State :=
  (s.modPortal p (fun q => { q with hold := none })).recomputeMode p

theorem releaseHold_of_hold {s : State} {p : Fin 16} (hhold : s.portals[p].hold ≠ none) :
    releaseHold p.val s = (s.dropHold p, Reply.done (byte1 (s.dropHold p).portals[p].mode.code)) := by
  simp only [releaseHold, portal?_val, Option.isNone_iff_eq_none, if_neg hhold]
  rfl

/-! ## What the removal of a hold leaves -/

/-- The mode that a portal with no hold takes from fire, the held schedule verdict and the base mode. -/
theorem State.effectiveMode_of_no_hold {s : State} {p : Fin 16} (hnone : s.portals[p].hold = none) :
    s.effectiveMode p =
      if s.fire.active = true ∧ (s.portalRec p).egress = true then .free
      else if s.portals[p].verdict = .inWindow then .free
      else (s.portalRec p).baseMode.mode := by
  unfold State.effectiveMode State.egressUnderFire
  rw [hnone]
  simp only [Bool.and_eq_true]

theorem State.dropHold_hold (s : State) (p : Fin 16) : (s.dropHold p).portals[p].hold = none := by
  rw [State.dropHold, State.recomputeMode_hold, State.modPortal_self]

theorem State.dropHold_mode (s : State) (p : Fin 16) :
    (s.dropHold p).portals[p].mode =
      if s.fire.active = true ∧ (s.portalRec p).egress = true then .free
      else if s.portals[p].verdict = .inWindow then .free
      else (s.portalRec p).baseMode.mode := by
  rw [State.dropHold, State.recomputeMode_mode, State.effectiveMode_of_no_hold (by rw [State.modPortal_self]),
    State.modPortal_self]
  rfl

theorem State.dropHold_other (s : State) {p q : Fin 16} (hother : q ≠ p) :
    (s.dropHold p).portals[q] = s.portals[q] := by
  rw [State.dropHold, State.recomputeMode_other _ _ _ hother, State.modPortal_other _ _ _ _ hother.symm]

/-- The removal of a hold and its recomputation touch neither the supplies, the lines, the clock nor the fire state. -/
@[simp] theorem State.dropHold_frame (s : State) (p : Fin 16) :
    (s.dropHold p).pending = s.pending ∧ (s.dropHold p).power = s.power ∧ (s.dropHold p).pins = s.pins
      ∧ (s.dropHold p).clock = s.clock ∧ (s.dropHold p).ticketCounter = s.ticketCounter
      ∧ (s.dropHold p).fire = s.fire ∧ (s.dropHold p).outs = s.outs ∧ (s.dropHold p).freeCount = s.freeCount := by
  simp [State.dropHold]

/-- A FREE portal whose schedule verdict is IN stays FREE without its hold, under fire or not. -/
theorem State.dropHold_mode_of_inWindow {s : State} {p : Fin 16} (hin : s.portals[p].verdict = .inWindow) :
    (s.dropHold p).portals[p].mode = .free := by
  rw [State.dropHold_mode, if_pos hin, ite_self]

/-- Where the mode stays, the hold is all that leaves. -/
theorem State.dropHold_of_free {s : State} {p : Fin 16} (hfree : s.portals[p].mode = .free)
    (hin : s.portals[p].verdict = .inWindow) : s.dropHold p = s.modPortal p (fun q => { q with hold := none }) := by
  apply State.recomputeMode_of_same
  rw [← State.recomputeMode_mode, State.modPortal_self]
  exact (State.dropHold_mode_of_inWindow hin).trans hfree.symm

/-! ## The event of RELEASE_HOLD -/

theorem exec_releaseHold (n : Nat) (s : State) : exec (.releaseHold n) s = done (request .office s (releaseHold n)) :=
  rfl

/-- The state in which a RELEASE_HOLD that its checks let through leaves the part. -/
def State.afterReleaseHold (s : State) (p : Fin 16) : State :=
  let t := (s.endFrame .office).dropHold p
  (t.holdReply .office ⟨.ok, byte1 t.portals[p].mode.code⟩).drive

theorem exec_releaseHold_of_hold {s : State} {p : Fin 16} (hack : s.acknowledges .office = true)
    (hhold : s.portals[p].hold ≠ none) : exec (.releaseHold p.val) s = .next (s.afterReleaseHold p) := by
  have hframed : (s.endFrame .office).portals[p].hold ≠ none := hhold
  rw [exec_releaseHold, request_performed _ hack, releaseHold_of_hold hframed]
  rfl

/-- The portals are those that the removal of the hold leaves. -/
theorem State.afterReleaseHold_portals (s : State) (p : Fin 16) :
    (s.afterReleaseHold p).portals = ((s.endFrame .office).dropHold p).portals := by
  simp [State.afterReleaseHold]

/-- The reply carries the mode that the portal then holds. -/
theorem State.afterReleaseHold_reply (s : State) (p : Fin 16) :
    (s.afterReleaseHold p).office.reply = some ⟨.ok, byte1 (s.afterReleaseHold p).portals[p].mode.code⟩ := by
  rw [State.afterReleaseHold_portals]
  rfl

/-- Supplies, lines, clock, fire state, ticket counter and the queue of commands stay. -/
theorem State.afterReleaseHold_frame (s : State) (p : Fin 16) :
    s.afterReleaseHold p =
      { s with
        portals := (s.afterReleaseHold p).portals, roster := (s.afterReleaseHold p).roster
        cars := (s.afterReleaseHold p).cars, store := (s.afterReleaseHold p).store
        referrals := (s.afterReleaseHold p).referrals, journal := (s.afterReleaseHold p).journal
        office := (s.afterReleaseHold p).office, field := (s.afterReleaseHold p).field
        outs := (s.afterReleaseHold p).outs } := by
  apply State.eq_of_fields
  case portals | roster | cars | store | referrals | journal | office | field | outs => rfl
  all_goals simp [State.afterReleaseHold]

/-- No record is appended where the mode stays. -/
theorem State.afterReleaseHold_journal_of_free {s : State} {p : Fin 16} (hfree : s.portals[p].mode = .free)
    (hin : s.portals[p].verdict = .inWindow) : (s.afterReleaseHold p).journal = s.journal := by
  have hstays := State.dropHold_of_free (s := s.endFrame .office) (p := p) hfree hin
  simp [State.afterReleaseHold, hstays]

/-- Settles O53: the refusals from the checks, and the release from the removal of the hold and its recomputation. -/
theorem releaseHoldReleases : Obligations.ReleaseHoldReleases := by
  intro s
  refine ⟨?field, ?outside, fun p hack => ⟨?absent, ?released⟩⟩
  case field =>
    intro n _ hack
    exact exec_writeFrame_refused hack (judgeFrame_field_releaseHold n) (by decide)
  case outside =>
    intro n hack hout
    exact done_request_office_reads hack (releaseHold_of_outside hout _)
  case absent =>
    intro hnone
    exact done_request_office_reads hack (releaseHold_of_no_hold (s := s.endFrame .office) hnone)
  case released =>
    intro hhold
    have hportals := s.afterReleaseHold_portals p
    refine ⟨s.afterReleaseHold p, exec_releaseHold_of_hold hack hhold, ?hold, ?mode, s.afterReleaseHold_reply p,
      ?other, s.afterReleaseHold_frame p, ?stays⟩
    case hold =>
      rw [hportals]
      exact State.dropHold_hold _ p
    case mode =>
      rw [hportals]
      exact State.dropHold_mode (s.endFrame .office) p
    case other =>
      intro q hother
      rw [hportals]
      exact State.dropHold_other (s.endFrame .office) hother
    case stays =>
      intro hfree hin
      refine ⟨?_, State.afterReleaseHold_journal_of_free hfree hin⟩
      rw [hportals]
      exact State.dropHold_mode_of_inWindow (s := s.endFrame .office) hin

end Sys2Proof.Machine

/-! PROOFS. InterlockGroups: which members of a group count, and what the own drive, the line and the judgement of a
release show of them (Chapter 6). -/

namespace Sys2Proof.Machine

/-! ## Members that count (R110, R111, R118) -/

/-- Portal `q` is a member of group `g` that counts. -/
def State.CountsIn (s : State) (g : Fin 4) (q : Fin 16) : Prop :=
  (s.portalRec q).group = some g ∧ s.portals[q].leaf ≠ .secure
    ∧ ¬(s.fire.active = true ∧ (s.portalRec q).egress = true)

theorem mem_allPortals (p : Fin 16) : p ∈ allPortals := by
  revert p
  decide

theorem State.mem_members_iff {s : State} {g : Fin 4} {q : Fin 16} :
    q ∈ s.members g ↔ (s.portalRec q).group = some g := by
  simp [State.members, mem_allPortals]

theorem State.egressUnderFire_iff {s : State} {p : Fin 16} :
    s.egressUnderFire p = true ↔ s.fire.active = true ∧ (s.portalRec p).egress = true := by
  simp [State.egressUnderFire]

theorem State.counts_iff {s : State} {q : Fin 16} :
    s.counts q = true ↔
      s.portals[q].leaf ≠ .secure ∧ ¬(s.fire.active = true ∧ (s.portalRec q).egress = true) := by
  rw [← State.egressUnderFire_iff]
  simp [State.counts]

theorem State.countsIn_iff {s : State} {g : Fin 4} {q : Fin 16} :
    s.CountsIn g q ↔ q ∈ s.members g ∧ s.counts q = true := by
  rw [State.mem_members_iff, State.counts_iff, State.CountsIn]

/-! ## The own drive and the line (R111, R112) -/

theorem State.pulling_iff {s : State} {g : Fin 4} : s.pulling g = true ↔ ∃ q, s.CountsIn g q := by
  simp only [State.pulling, List.any_eq_true, State.countsIn_iff]

theorem State.lineHigh_eq_false_iff {s : State} {g : Fin 4} :
    s.lineHigh g = false ↔ (∃ q, s.CountsIn g q) ∨ s.pins.straps.ilOther[g] = true := by
  rw [← State.pulling_iff]
  cases hpull : s.pulling g <;> simp [State.lineHigh, hpull]

/-- The output pin of a line is pulled while the part runs and the group's own drive is PULLING. -/
theorem OutputsFollow.pulling_iff {s : State} (h : OutputsFollow s) (g : Fin 4) :
    s.outs.pulling[g] = true ↔ s.running = true ∧ ∃ q, s.CountsIn g q := by
  unfold OutputsFollow at h
  rw [← State.pulling_iff]
  simp [h, State.outputs]

/-! ## The judgement of a release (R113, R118) -/

/-- A member of the group other than `p` counts: condition 1. -/
def State.otherCounts (s : State) (g : Fin 4) (p : Fin 16) : Bool :=
  (s.members g).any (fun q => q != p && s.counts q)

theorem State.otherCounts_iff {s : State} {g : Fin 4} {p : Fin 16} :
    s.otherCounts g p = true ↔ ∃ q, q ≠ p ∧ s.CountsIn g q := by
  simp only [State.otherCounts, List.any_eq_true, Bool.and_eq_true, bne_iff_ne, State.countsIn_iff, and_left_comm]

theorem State.otherCounts_eq_false_iff {s : State} {g : Fin 4} {p : Fin 16} :
    s.otherCounts g p = false ↔ ∀ q, q ≠ p → ¬s.CountsIn g q := by
  rw [← Bool.not_eq_true, State.otherCounts_iff]
  simp only [not_exists, not_and]

/-- While no other member counts, the own drive shows whether the member itself does. -/
theorem State.pulling_iff_self {s : State} {g : Fin 4} {p : Fin 16} (hother : s.otherCounts g p = false) :
    s.pulling g = true ↔ s.CountsIn g p := by
  rw [State.pulling_iff]
  constructor
  case mp =>
    rintro ⟨q, hcounts⟩
    by_cases hself : q = p
    case pos => exact hself ▸ hcounts
    case neg => exact absurd hcounts (State.otherCounts_eq_false_iff.mp hother q hself)
  case mpr => exact fun hcounts => ⟨p, hcounts⟩

theorem State.pulling_of_otherCounts {s : State} {g : Fin 4} {p : Fin 16} (hother : s.otherCounts g p = true) :
    s.pulling g = true := by
  obtain ⟨q, _, hcounts⟩ := State.otherCounts_iff.mp hother
  exact State.pulling_iff.mpr ⟨q, hcounts⟩

theorem State.busyFor_of_no_group {s : State} {p : Fin 16} (hgroup : (s.portalRec p).group = none) :
    s.busyFor p = none := by
  simp only [State.busyFor, hgroup]

theorem State.busyFor_of_egressUnderFire {s : State} {p : Fin 16} (hegress : s.egressUnderFire p = true) :
    s.busyFor p = none := by
  unfold State.busyFor
  split
  case h_1 => rfl
  case h_2 => exact if_pos hegress

/-- The judgement of a member that is no egress portal under fire. -/
theorem State.busyFor_of_group {s : State} {p : Fin 16} {g : Fin 4} (hgroup : (s.portalRec p).group = some g)
    (hegress : ¬s.egressUnderFire p = true) :
    s.busyFor p =
      if s.otherCounts g p then some 1 else if !s.pulling g && !s.lineHigh g then some 2 else none := by
  simp only [State.busyFor, hgroup, if_neg hegress]
  rfl

section
variable {s : State} {p : Fin 16} {g : Fin 4}

theorem State.busyFor_eq_one_iff (hgroup : (s.portalRec p).group = some g) (hegress : ¬s.egressUnderFire p = true) :
    s.busyFor p = some 1 ↔ ∃ q, q ≠ p ∧ s.CountsIn g q := by
  rw [State.busyFor_of_group hgroup hegress, ← State.otherCounts_iff]
  split
  case isTrue hother => simp [hother]
  case isFalse hother => split <;> simp [hother]

/-- Condition 2 asks that no member counts, which leaves no room for condition 1. -/
theorem State.busyFor_eq_two_iff (hgroup : (s.portalRec p).group = some g) (hegress : ¬s.egressUnderFire p = true) :
    s.busyFor p = some 2 ↔ (∀ q, ¬s.CountsIn g q) ∧ s.lineHigh g = false := by
  have hstill : s.pulling g = false ↔ ∀ q, ¬s.CountsIn g q := by
    rw [← Bool.not_eq_true, State.pulling_iff, not_exists]
  rw [State.busyFor_of_group hgroup hegress, ← hstill]
  split
  case isTrue hother => simp [State.pulling_of_otherCounts hother]
  case isFalse => simp

theorem State.busyFor_eq_none_iff (hgroup : (s.portalRec p).group = some g) (hegress : ¬s.egressUnderFire p = true) :
    s.busyFor p = none ↔ (∀ q, q ≠ p → ¬s.CountsIn g q) ∧ (s.CountsIn g p ∨ s.lineHigh g = true) := by
  rw [State.busyFor_of_group hgroup hegress, ← State.otherCounts_eq_false_iff]
  split
  case isTrue hother => simp [hother]
  case isFalse hother =>
    have hnone : s.otherCounts g p = false := Bool.eq_false_iff.mpr hother
    rw [← State.pulling_iff_self hnone]
    cases s.pulling g <;> simp [hnone]

end

/-- Settles O13: the pins follow the state after every command, and the own drive, the line and the judgement are each
read off in the members that count. -/
theorem drivesFollowMembers : Obligations.DrivesFollowMembers := by
  refine ⟨fun c s t g h => (exec_outputsFollow h).pulling_iff g, fun s p => ⟨?ungrouped, ?fire, ?grouped⟩⟩
  case ungrouped => exact State.busyFor_of_no_group
  case fire =>
    exact fun hfire hegress => State.busyFor_of_egressUnderFire (State.egressUnderFire_iff.mpr ⟨hfire, hegress⟩)
  case grouped =>
    intro g counting hcounting
    obtain rfl : counting = s.CountsIn g := funext fun q => propext (hcounting q)
    refine ⟨State.lineHigh_eq_false_iff, fun hgroup hfire => ?judged⟩
    have hegress : ¬s.egressUnderFire p = true := fun h => hfire (State.egressUnderFire_iff.mp h)
    exact ⟨State.busyFor_eq_one_iff hgroup hegress, State.busyFor_eq_two_iff hgroup hegress,
      State.busyFor_eq_none_iff hgroup hegress⟩

end Sys2Proof.Machine

/-! PROOFS. Alarm: what the ALARM pin shows of the latch and the portals, that a RESTORING part stays so until restore
completes, how restore completion leaves the portals, and what CLEAR_EVENTS leaves of what ALARM shows (R26, R109, R156,
R157). -/

namespace Sys2Proof.Machine

/-! ## What ALARM shows (R108, R157) -/

theorem State.alarming_iff {s : State} :
    s.alarming = true ↔
      s.fire.latch = true ∨ ∃ p : Fin 16, s.portals[p].leaf = .forced ∨ s.portals[p].leaf = .held := by
  simp [State.alarming, mem_allPortals]

theorem OutputsFollow.alarm {s : State} (h : OutputsFollow s) : s.outs.alarm = (s.running && s.alarming) := by
  unfold OutputsFollow at h
  rw [h]
  rfl

theorem OutputsFollow.alarm_of_stopped {s : State} (h : OutputsFollow s) (hstop : s.running = false) :
    s.outs.alarm = false := by
  rw [h.alarm, hstop, Bool.false_and]

/-- What the state asks of ALARM depends on the supplies, the Store, the latch and the portals alone. -/
theorem State.outputs_alarm_congr {s t : State} (hpower : t.power = s.power) (hstore : t.store = s.store)
    (hlatch : t.fire.latch = s.fire.latch) (hportals : t.portals = s.portals) :
    t.outputs.alarm = s.outputs.alarm := by
  simp only [State.outputs, State.running, State.alarming, hpower, hstore, hlatch, hportals]

/-! ## A part that does not run takes no event of a block (R26, R27) -/

theorem State.running_of_restoring {s : State} (hres : s.store.phase = .restoring) : s.running = false := by
  simp [State.running, hres]

theorem whenRunning_of_stopped {s : State} (hstop : s.running = false) (act : State → State) :
    whenRunning s act = s := by
  simp [whenRunning, hstop]

theorem State.acknowledges_of_stopped {s : State} (hstop : s.running = false) (p : Port) :
    s.acknowledges p = false := by
  simp [State.acknowledges, hstop]

theorem takePut_unheard {check : State → Except ResultCode (List SlotWrite)} {s : State}
    (hdeaf : s.acknowledges .office = false) : takePut check s = s := by
  simp [takePut, hdeaf]

/-- Of the timers, those of the fire filter alone stand at a tick while the part does not run. -/
theorem State.nothing_due {s : State} (hstop : s.running = false) :
    (∀ p level, s.leafDue p level = false) ∧ (∀ p level, s.exitDue p level = false) ∧ (∀ p, s.unlockDue p = false)
      ∧ (∀ p, s.heldDue p = false) ∧ (∀ p, s.interruptionDue p = false) ∧ (∀ p, s.rearmDue p = false)
      ∧ (∀ p, s.recomputeDue p = false) ∧ (∀ ticket, s.deadlineDue ticket = false)
      ∧ (∀ c, s.sessionDue c = false) ∧ (∀ p, s.frameDue p = false) ∧ s.tamperDue = false := by
  simp [State.leafDue, State.exitDue, State.unlockDue, State.heldDue, State.interruptionDue, State.rearmDue,
    State.recomputeDue, State.deadlineDue, State.sessionDue, State.frameDue, State.tamperDue, hstop]

/-- Settling the timers of a part that does not run takes none of them. -/
theorem settle_of_stopped {s : State} (hstop : s.running = false) :
    settle State.tamperDue State.setLatch s = s ∧ (∀ p, settleRecompute s p = s) ∧ (∀ p, settlePortal s p = s)
      ∧ (∀ ticket, settleDeadline s ticket = s) ∧ (∀ c, settleSession s c = s) ∧ (∀ p, settleFrame s p = s) := by
  simp [settle, settleRecompute, settlePortal, settleDeadline, settleSession, settleFrame, State.nothing_due hstop]

/-! ## RESTORING lasts until restore completes (R26, R27) -/

section
variable {s : State}

theorem whenRunning_restoring (hres : s.store.phase = .restoring) (act : State → State) :
    (whenRunning s act).store.phase = .restoring := by
  rw [whenRunning_of_stopped (State.running_of_restoring hres), hres]

/-- Before restore completes an onset changes the fire state alone (R154). -/
theorem State.fireStarts_restoring (hres : s.store.phase = .restoring) : s.fireStarts.store.phase = .restoring := by
  simp [State.fireStarts, State.running_of_restoring hres, hres]

/-- Before restore completes a clear changes the fire state alone (R154). -/
theorem State.fireEnds_restoring (hres : s.store.phase = .restoring) : s.fireEnds.store.phase = .restoring := by
  simp [State.fireEnds, State.running_of_restoring hres, hres]

/-- Of what is due at a tick, a RESTORING part takes the onset and the clear alone. -/
theorem State.settleDue_restoring (hres : s.store.phase = .restoring) : s.settleDue.store.phase = .restoring := by
  have honset : (settle State.onsetDue State.fireStarts s).store.phase = .restoring :=
    settle_keeps (P := (·.store.phase = .restoring)) hres (fun _ => State.fireStarts_restoring hres)
  have hclear := settle_keeps (P := (·.store.phase = .restoring)) (due := State.clearDue) honset
    (fun _ => State.fireEnds_restoring honset)
  unfold State.settleDue
  dsimp only
  generalize settle State.clearDue State.fireEnds (settle State.onsetDue State.fireStarts s) = t at hclear ⊢
  have hstop := State.running_of_restoring hclear
  obtain ⟨htamper, hrecompute, hportal, hdeadline, hsession, hframe⟩ := settle_of_stopped hstop
  rw [List.foldl_fixed' hrecompute, htamper, List.foldl_fixed' hportal, List.foldl_fixed' hdeadline,
    List.foldl_fixed' hsession, hframe, hframe]
  exact hclear

theorem State.openBoundary_restoring (hres : s.store.phase = .restoring) :
    s.openBoundary.store.phase = .restoring := by
  simp only [State.openBoundary, State.settleDue_restoring hres]

/-- A timed event leaves a part RESTORING if its action does. -/
theorem timed_restoring {due : State → Bool} {act : State → State} (hres : s.store.phase = .restoring)
    (hact : ∀ u : State, u.store.phase = .restoring → due u = true → (act u).store.phase = .restoring) :
    (timed due act s).store.phase = .restoring := by
  rcases timed_cases due act s with ⟨hdue, htimed⟩ | ⟨_, hdue, htimed⟩ | htimed <;> rw [htimed]
  case inl => exact hact s hres hdue
  case inr.inl => exact hact s.openBoundary (State.openBoundary_restoring hres) hdue
  case inr.inr => exact hres

/-- The timed event of a block that acts only while the part runs leaves a part RESTORING. -/
theorem timed_restoring_of_idle {due : State → Bool} {act : State → State} (hres : s.store.phase = .restoring)
    (hidle : ∀ u : State, u.running = false → due u = false) : (timed due act s).store.phase = .restoring := by
  refine timed_restoring hres (fun u hu hdue => ?_)
  rw [hidle u (State.running_of_restoring hu)] at hdue
  exact absurd hdue Bool.false_ne_true

theorem State.setStraps_store (s : State) (straps : Option Straps) : (s.setStraps straps).store = s.store := by
  cases straps <;> simp [State.setStraps]

/-- While RESTORING, a minute boundary is taken by the clock alone (R31). -/
theorem State.takeBoundary_restoring (hres : s.store.phase = .restoring) :
    s.takeBoundary.store.phase = .restoring :=
  whenRunning_restoring (s := { s with clock := s.clock.nextMinute }) hres _

theorem State.stepClock_restoring (hres : s.store.phase = .restoring) : s.stepClock.store.phase = .restoring := by
  unfold State.stepClock
  dsimp only
  split
  case isFalse => exact hres
  case isTrue =>
    split
    case isTrue => exact State.takeBoundary_restoring hres
    case isFalse => exact hres

theorem State.tick_restoring (hres : s.store.phase = .restoring) (straps : Option Straps) :
    (s.tick straps).store.phase = .restoring := by
  unfold State.tick
  split
  case isTrue =>
    apply State.takeBoundary_restoring
    rw [State.setStraps_store, hres]
  case isFalse =>
    apply State.stepClock_restoring
    rw [State.setStraps_store, State.settleDue_restoring hres]

theorem State.boundary_restoring (hres : s.store.phase = .restoring) : s.boundary.store.phase = .restoring := by
  unfold State.boundary
  split
  case isTrue => exact State.tick_restoring hres none
  case isFalse => exact hres

/-! ### Supplies and RESET_N -/

theorem State.powerOn_restoring (hres : s.store.phase = .restoring) : s.powerOn.store.phase = .restoring := by
  unfold State.powerOn
  dsimp only
  split
  case isTrue => exact hres
  case isFalse => split <;> rfl

theorem State.losePower_restoring (hres : s.store.phase = .restoring) : s.losePower.store.phase = .restoring := by
  unfold State.losePower
  split
  case isTrue => simp [State.stopBlocks]
  case isFalse => exact hres

theorem State.loseVbat_restoring (hres : s.store.phase = .restoring) : s.loseVbat.store.phase = .restoring := by
  simpa [State.loseVbat] using hres

theorem State.assertReset_restoring (hres : s.store.phase = .restoring) :
    s.assertReset.store.phase = .restoring := by
  unfold State.assertReset
  split
  case isTrue => exact hres
  case isFalse => rfl

theorem State.negateReset_restoring (hres : s.store.phase = .restoring) :
    s.negateReset.store.phase = .restoring := by
  unfold State.negateReset
  dsimp only
  split
  case isTrue => split <;> exact hres
  case isFalse => exact hres

/-- However RESET_N stood, its assertion leaves it asserted. -/
theorem State.assertReset_asserted (s : State) : s.assertReset.power.resetAsserted = true := by
  unfold State.assertReset
  split
  case isTrue hheld => exact hheld
  case isFalse => rfl

theorem State.running_of_resetAsserted (hheld : s.power.resetAsserted = true) : s.running = false := by
  simp [State.running, hheld]

/-! ### Lines and frames -/

theorem State.leafIn_restoring (hres : s.store.phase = .restoring) (p : Fin 16) (asserted : Bool) :
    (s.leafIn p asserted).store.phase = .restoring := by
  unfold State.leafIn
  split
  case isTrue => exact hres
  case isFalse =>
    apply whenRunning_restoring
    exact hres

theorem State.exitIn_restoring (hres : s.store.phase = .restoring) (p : Fin 16) (asserted : Bool) :
    (s.exitIn p asserted).store.phase = .restoring := by
  unfold State.exitIn
  split
  case isTrue => exact hres
  case isFalse =>
    apply whenRunning_restoring
    exact hres

theorem State.beamIn_restoring (hres : s.store.phase = .restoring) (p : Fin 16) (broken : Bool)
    (f : Portal → Portal) : (s.beamIn p broken f).store.phase = .restoring := by
  unfold State.beamIn
  split
  case isTrue => exact hres
  case isFalse =>
    apply whenRunning_restoring
    exact hres

theorem State.fireIn_store (s : State) (high : Bool) : (s.fireIn high).store = s.store := by
  unfold State.fireIn
  dsimp only
  repeat' split
  all_goals rfl

theorem State.tamperIn_store (s : State) (asserted : Bool) : (s.tamperIn asserted).store = s.store := by
  unfold State.tamperIn
  dsimp only
  repeat' split
  all_goals rfl

theorem State.startFrame_store (s : State) (p : Port) (address : Nat) :
    (s.startFrame p address).store = s.store := by
  unfold State.startFrame
  repeat' split
  all_goals simp

theorem execWriteFrame_unheard {p : Port} (hdeaf : s.acknowledges p = false) (bytes : List Byte) :
    execWriteFrame p bytes s = done s := by
  simp [execWriteFrame, hdeaf]

theorem execReadFrame_unheard {p : Port} (hdeaf : s.acknowledges p = false) (count : Nat) (ended : Bool) :
    execReadFrame p count ended s = done s := by
  simp [execReadFrame, hdeaf]

/-! ### Every command -/

/-- Every command but the completion of restore leaves a RESTORING part RESTORING. -/
theorem exec_of_restoring {c : Instr} (hres : s.store.phase = .restoring) (hc : c ≠ .restoreComplete) :
    ∃ u : State, exec c s = done u ∧ u.store.phase = .restoring := by
  have hstop := State.running_of_restoring hres
  have hdeaf := State.acknowledges_of_stopped hstop
  cases c
  case restoreComplete => exact absurd rfl hc
  -- supplies, RESET_N and the clock
  case powerOn => exact ⟨_, rfl, State.powerOn_restoring hres⟩
  case mainPowerLoss => exact ⟨_, rfl, State.losePower_restoring hres⟩
  case vbatLoss => exact ⟨_, rfl, State.loseVbat_restoring hres⟩
  case resetAssert => exact ⟨_, rfl, State.assertReset_restoring hres⟩
  case resetNegate => exact ⟨_, rfl, State.negateReset_restoring hres⟩
  case tick straps => exact ⟨_, rfl, State.tick_restoring hres straps⟩
  case minuteBoundary => exact ⟨_, rfl, State.boundary_restoring hres⟩
  -- the Store's own events
  case slotVerified | budgetWriteBack => exact ⟨s, congrArg done (whenRunning_of_stopped hstop _), hres⟩
  -- lines
  case leafLineChange p asserted => exact ⟨_, rfl, State.leafIn_restoring hres p asserted⟩
  case exitLineChange p asserted => exact ⟨_, rfl, State.exitIn_restoring hres p asserted⟩
  case beamBreak p | beamClear p => exact ⟨_, rfl, State.beamIn_restoring hres p _ _⟩
  case fireInChange high => exact ⟨_, rfl, by rw [State.fireIn_store, hres]⟩
  case tamperLineChange asserted => exact ⟨_, rfl, by rw [State.tamperIn_store, hres]⟩
  -- frames
  case writeFrame p bytes => exact ⟨s, execWriteFrame_unheard (hdeaf p) bytes, hres⟩
  case readFrame p count ended => exact ⟨s, execReadFrame_unheard (hdeaf p) count ended, hres⟩
  case frameStart p address => exact ⟨_, rfl, by rw [State.startFrame_store, hres]⟩
  case discardingEnd p => exact ⟨_, rfl, by simp [hres]⟩
  -- timers
  case fireOnset => exact ⟨_, rfl, timed_restoring hres (fun _ hu _ => State.fireStarts_restoring hu)⟩
  case fireClear => exact ⟨_, rfl, timed_restoring hres (fun _ hu _ => State.fireEnds_restoring hu)⟩
  case frameTimeout | leafOpenRecognized | leafClosedRecognized | exitPress | exitReleaseRecognized | unlockExpiry
      | heldTimerExpiry | qualifyingInterruption | beamRearmExpiry | referralDeadline | sessionTimerExpiry
      | fireClearRecomputation | tamperLatchSet =>
    exact ⟨_, rfl, timed_restoring_of_idle hres (fun u hu => by simp [State.nothing_due hu])⟩
  -- requests
  case putUnit | putTenancy | dropTenancy | putCredential | dropCredential | putProfile | putHolidays | putPortal
      | putCar | putSite =>
    exact ⟨s, congrArg done (takePut_unheard (hdeaf .office)), hres⟩
  all_goals exact ⟨s, congrArg done (request_unheard _ (hdeaf _)), hres⟩

/-- Every command but the completion of restore leaves a RESTORING part stopped. -/
theorem exec_stopped_of_restoring {c : Instr} {t : State} (hres : s.store.phase = .restoring)
    (hc : c ≠ .restoreComplete) (h : exec c s = .next t) : t.running = false := by
  obtain ⟨u, hu, hstays⟩ := exec_of_restoring hres hc
  rw [hu, done_eq] at h
  subst h
  exact State.running_of_restoring hstays

end

/-! ## Restore completion (R109, R155) -/

/-- A Portal Controller begins FREE or SECURE. -/
theorem State.startPortal_leaf (s : State) (p : Fin 16) :
    (s.startPortal p).portals[p].leaf = .free ∨ (s.startPortal p).portals[p].leaf = .secure := by
  unfold State.startPortal
  dsimp only
  rw [State.modPortal_self]
  exact ite_eq_or_eq _ _ _

theorem State.startPortal_other (s : State) {p q : Fin 16} (hother : q ≠ p) :
    (s.startPortal p).portals[q] = s.portals[q] := by
  unfold State.startPortal
  dsimp only
  rw [State.modPortal_other _ _ _ _ hother.symm, State.modPortal_other _ _ _ _ hother.symm]

@[simp] theorem State.startPortal_fire (s : State) (p : Fin 16) : (s.startPortal p).fire = s.fire := rfl

/-- Every portal that has begun, or stood so before, is FREE or SECURE. -/
theorem State.startPortals_leaf (l : List (Fin 16)) {s : State} {p : Fin 16}
    (h : p ∈ l ∨ s.portals[p].leaf = .free ∨ s.portals[p].leaf = .secure) :
    (l.foldl State.startPortal s).portals[p].leaf = .free
      ∨ (l.foldl State.startPortal s).portals[p].leaf = .secure := by
  induction l generalizing s with
  | nil => simpa using h
  | cons q l ih =>
    apply ih
    by_cases hself : p = q
    case pos =>
      subst hself
      exact .inr (s.startPortal_leaf p)
    case neg =>
      rw [s.startPortal_other hself]
      exact h.imp_left (fun hmem => (List.mem_cons.mp hmem).resolve_left hself)

@[simp] theorem State.startTamperFilter_portals (s : State) : s.startTamperFilter.portals = s.portals := rfl
@[simp] theorem State.startTamperFilter_latch (s : State) : s.startTamperFilter.fire.latch = s.fire.latch := rfl

section
variable {s : State} (hsampling : s.sampling = true) (hres : s.store.phase = .restoring)
include hsampling hres

/-- Restore completion leaves the portals as their controllers begin them. -/
theorem State.completeRestore_portals :
    s.completeRestore.portals = (allPortals.foldl State.startPortal s.loadMirror.noteStart).portals := by
  simp only [State.completeRestore, hsampling, hres, beq_self_eq_true, Bool.and_self, if_true]
  rw [State.startTamperFilter_portals]
  split <;> simp

theorem State.completeRestore_latch : s.completeRestore.fire.latch = s.fire.latch := by
  have hstart : (allPortals.foldl State.startPortal s.loadMirror.noteStart).fire = s.fire := by
    rw [foldl_keeps (·.fire) State.startPortal State.startPortal_fire]
    simp [State.noteStart, State.loadMirror]
  simp only [State.completeRestore, hsampling, hres, beq_self_eq_true, Bool.and_self, if_true]
  rw [State.startTamperFilter_latch]
  split <;> simp [hstart]

theorem State.completeRestore_leaf (p : Fin 16) :
    s.completeRestore.portals[p].leaf = .free ∨ s.completeRestore.portals[p].leaf = .secure := by
  rw [State.completeRestore_portals hsampling hres]
  exact State.startPortals_leaf allPortals (.inl (mem_allPortals p))

/-- A restore completion that finds the latch clear leaves nothing to alarm of. -/
theorem State.completeRestore_alarming (hlatch : s.fire.latch = false) : s.completeRestore.alarming = false := by
  rw [← Bool.not_eq_true, State.alarming_iff, State.completeRestore_latch hsampling hres, hlatch]
  rintro (hset | ⟨p, hleaf⟩)
  case inl => exact Bool.false_ne_true hset
  case inr =>
    rcases State.completeRestore_leaf hsampling hres p with hbegun | hbegun
    all_goals
      rw [hbegun] at hleaf
      simp at hleaf

end

/-! ## CLEAR_EVENTS (R156, R168) -/

/-- The attempt on the latch leaves the supplies, the Store and the portals. -/
@[simp] theorem State.clearLatch_frame (s : State) :
    s.clearLatch.power = s.power ∧ s.clearLatch.store = s.store ∧ s.clearLatch.portals = s.portals := by
  unfold State.clearLatch
  repeat' split
  all_goals simp

@[simp] theorem State.clearFlags_frame (s : State) (p : Port) (flags : Set16) :
    (s.clearFlags p flags).power = s.power ∧ (s.clearFlags p flags).store = s.store
      ∧ (s.clearFlags p flags).portals = s.portals := by
  unfold State.clearFlags
  cases p
  case field => simp
  case office => dsimp only; split <;> simp

@[simp] theorem clearEvents_frame (p : Port) (flags : Set16) (s : State) :
    (clearEvents p flags s).1.power = s.power ∧ (clearEvents p flags s).1.store = s.store
      ∧ (clearEvents p flags s).1.portals = s.portals := by
  unfold clearEvents
  split <;> simp

/-- CLEAR_EVENTS, heard or not, leaves the supplies, the Store and the portals. -/
theorem request_clearEvents_frame (p : Port) (flags : Set16) (s : State) :
    (request p s (clearEvents p flags)).power = s.power ∧ (request p s (clearEvents p flags)).store = s.store
      ∧ (request p s (clearEvents p flags)).portals = s.portals := by
  cases hack : s.acknowledges p with
  | false => simp [request_unheard _ hack]
  | true => simp [request_performed _ hack]

theorem exec_clearEvents (p : Port) (flags : Set16) (s : State) :
    exec (.clearEvents p flags) s = done (request p s (clearEvents p flags)) :=
  rfl

/-- A CLEAR_EVENTS that leaves the latch leaves ALARM as the state before it asks. -/
theorem exec_clearEvents_alarm {p : Port} {flags : Set16} {s t : State} (h : exec (.clearEvents p flags) s = .next t)
    (hlatch : t.fire.latch = s.fire.latch) : t.outs.alarm = s.outputs.alarm := by
  rw [exec_clearEvents, done_eq] at h
  subst h
  obtain ⟨hpower, hstore, hportals⟩ := request_clearEvents_frame p flags s
  exact State.outputs_alarm_congr hpower hstore hlatch hportals

/-! ## ALARM after every command -/

/-- Settles O11: the pins follow the state after every command, so that ALARM is read off in the state that restore
completion, a stopped part or CLEAR_EVENTS leaves. -/
theorem alarmFollowsStates : Obligations.AlarmFollowsStates := by
  refine ⟨?shows, ?restored, ?reset, ?restoring, ?cleared⟩
  case shows =>
    intro c s t h
    rw [(exec_outputsFollow h).alarm, Bool.and_eq_true, State.alarming_iff]
  case restored =>
    intro s t hsampling hres hlatch h
    obtain rfl : t = s.completeRestore.drive := done_eq.mp h
    have hcalm : s.completeRestore.drive.alarming = false := State.completeRestore_alarming hsampling hres hlatch
    rw [(exec_outputsFollow h).alarm, hcalm, Bool.and_false]
  case reset =>
    intro s t h
    obtain rfl : t = s.assertReset.drive := done_eq.mp h
    have hheld : s.assertReset.drive.power.resetAsserted = true := s.assertReset_asserted
    exact ⟨hheld, (exec_outputsFollow h).alarm_of_stopped (State.running_of_resetAsserted hheld)⟩
  case restoring =>
    rintro s t hres ⟨c, hc, h⟩
    exact (exec_outputsFollow h).alarm_of_stopped (exec_stopped_of_restoring hres hc h)
  case cleared => exact fun p flags s t h => exec_clearEvents_alarm h

end Sys2Proof.Machine

/-! PROOFS. KeptLaws: the relation between two states in which the second keeps what the first keeps of the laws of the
part, with one lemma for each change of one component; each operation's lemma is then a chain of these (Section "Laws that
every step keeps" of Safety). -/

namespace Sys2Proof.Machine

/-! ## The laws of one portal, one car and one roster -/

/-- Nothing of a cycle stands at a portal that is SECURE or FREE (R83, R87, R92). -/
def Portal.Closed (q : Portal) : Prop :=
  q.leaf = .secure ∨ q.leaf = .free →
    q.grants = 0 ∧ q.passages = 0 ∧ q.tailgate = false ∧ q.moves = [] ∧ q.unlock = none ∧ q.held = none

/-- The leaf state of a portal is FREE exactly while its mode is (R101, R102). -/
def Portal.FreeTogether (q : Portal) : Prop := q.leaf = .free ↔ q.mode = .free

/-- A car's session is OPEN and timed exactly while a passenger rides (R121). -/
def Car.SessionAgrees (c : Car) : Prop :=
  (c.session = .opened ↔ c.passengers ≠ []) ∧ (c.timer.isSome = true ↔ c.passengers ≠ [])

theorem cyclesClosed_iff {s : State} : CyclesClosed s ↔ ∀ p : Fin 16, s.portals[p].Closed := Iff.rfl

theorem sessionsAgree_iff {s : State} : SessionsAgree s ↔ ∀ c : Fin 4, s.cars[c].SessionAgrees := Iff.rfl

/-- A cycle is over: nothing of it stands, whatever the leaf state is. -/
theorem Portal.endCycle_closed (l : LeafState) (q : Portal) : (q.endCycle l).Closed :=
  fun _ => ⟨rfl, rfl, rfl, rfl, rfl, rfl⟩

/-- A portal that is neither SECURE nor FREE may hold a cycle. -/
theorem Portal.closed_of_leaf {q : Portal} (hs : q.leaf ≠ .secure) (hf : q.leaf ≠ .free) : q.Closed :=
  fun h => absurd h (not_or.mpr ⟨hs, hf⟩)

/-- Every egress portal is FREE in mode while the fire state is ACTIVE (R151). -/
def FireFrees (s : State) : Prop := ∀ p : Fin 16, s.egressUnderFire p = true → s.portals[p].mode = .free

/-! ## Keeping the laws -/

/-- `t` keeps the queue of commands of `s`, and each law that `s` keeps. -/
structure Laws (s t : State) : Prop where
  pending : t.pending = s.pending
  journal : JournalBounded s → JournalBounded t
  queue : QueueLaw s → QueueLaw t
  flags : FlagsOfPorts s → FlagsOfPorts t
  cycles : CyclesClosed s → CyclesClosed t
  sessions : SessionsAgree s → SessionsAgree t
  tables : TablesRise s → TablesRise t
  roster : RosterDistinct s → RosterDistinct t

/-- What an operation keeps that does not stop the part: the supplies stay, the part does not fall back to RESTORING, and
leaf states and modes are FREE together. -/
structure Keeps (s t : State) : Prop extends Laws s t where
  power : t.power = s.power
  phase : t.store.phase = .restoring → s.store.phase = .restoring
  together : (∀ p : Fin 16, s.portals[p].FreeTogether) → ∀ p : Fin 16, t.portals[p].FreeTogether

/-- What an operation keeps that changes neither the fire state nor a portal record. -/
structure Quiet (s t : State) : Prop extends Keeps s t where
  fire : t.fire.active = s.fire.active
  records : t.store.mirror.portals = s.store.mirror.portals
  freed : ∀ p : Fin 16, s.egressUnderFire p = true → s.portals[p].mode = .free → t.portals[p].mode = .free

/-- What an operation keeps after which fire frees the egress portals, if it did before. -/
structure Safe (s t : State) : Prop extends Keeps s t where
  frees : s.running = true → FireFrees s → FireFrees t

theorem Laws.refl (s : State) : Laws s s := ⟨rfl, id, id, id, id, id, id, id⟩

theorem Laws.trans {s t u : State} (h : Laws s t) (k : Laws t u) : Laws s u where
  pending := k.pending.trans h.pending
  journal := k.journal ∘ h.journal
  queue := k.queue ∘ h.queue
  flags := k.flags ∘ h.flags
  cycles := k.cycles ∘ h.cycles
  sessions := k.sessions ∘ h.sessions
  tables := k.tables ∘ h.tables
  roster := k.roster ∘ h.roster

theorem Keeps.refl (s : State) : Keeps s s := ⟨Laws.refl s, rfl, id, id⟩

theorem Keeps.trans {s t u : State} (h : Keeps s t) (k : Keeps t u) : Keeps s u where
  toLaws := h.toLaws.trans k.toLaws
  power := k.power.trans h.power
  phase := h.phase ∘ k.phase
  together := k.together ∘ h.together

/-- An operation that does not stop the part leaves it running. -/
theorem Keeps.running {s t : State} (h : Keeps s t) (hrun : s.running = true) : t.running = true := by
  have hphase : t.store.phase ≠ .restoring := by
    intro hres
    simp [State.running, h.phase hres] at hrun
  simp only [State.running, Bool.and_eq_true, bne_iff_ne, h.power] at hrun ⊢
  exact ⟨hrun.1, hphase⟩

theorem Quiet.refl (s : State) : Quiet s s := ⟨Keeps.refl s, rfl, rfl, fun _ _ => id⟩

/-- Under an unchanged fire state and unchanged portal records, the egress portals under fire are the same. -/
theorem Quiet.egressUnderFire {s t : State} (h : Quiet s t) (p : Fin 16) :
    t.egressUnderFire p = s.egressUnderFire p := by
  simp only [State.egressUnderFire, State.portalRec, h.fire, h.records]

theorem Quiet.trans {s t u : State} (h : Quiet s t) (k : Quiet t u) : Quiet s u where
  toKeeps := h.toKeeps.trans k.toKeeps
  fire := k.fire.trans h.fire
  records := k.records.trans h.records
  freed := fun p he hm => k.freed p (by rw [h.egressUnderFire, he]) (h.freed p he hm)

theorem Quiet.safe {s t : State} (h : Quiet s t) : Safe s t where
  toKeeps := h.toKeeps
  frees := by
    intro _ hf p he
    rw [h.egressUnderFire] at he
    exact h.freed p he (hf p he)

theorem Safe.refl (s : State) : Safe s s := (Quiet.refl s).safe

theorem Safe.trans {s t u : State} (h : Safe s t) (k : Safe t u) : Safe s u where
  toKeeps := h.toKeeps.trans k.toKeeps
  frees := fun hrun hf => k.frees (h.toKeeps.running hrun) (h.frees hrun hf)

/-- A fold of steps each of which is quiet is quiet. -/
theorem Quiet.foldl {α : Type} {f : State → α → State} (hf : ∀ s a, Quiet s (f s a)) (l : List α) (s : State) :
    Quiet s (l.foldl f s) :=
  foldl_invariant (P := Quiet s) (fun t a h => h.trans (hf t a)) l (Quiet.refl s)

theorem Safe.foldl {α : Type} {f : State → α → State} (hf : ∀ s a, Safe s (f s a)) (l : List α) (s : State) :
    Safe s (l.foldl f s) :=
  foldl_invariant (P := Safe s) (fun t a h => h.trans (hf t a)) l (Safe.refl s)

/-- A quiet choice. -/
theorem Quiet.ite {s t u : State} {c : Prop} [Decidable c] (ht : c → Quiet s t) (hu : ¬c → Quiet s u) :
    Quiet s (if c then t else u) := by
  split
  case isTrue hc => exact ht hc
  case isFalse hc => exact hu hc

/-! ## Changes of one component -/

theorem Quiet.clock (s : State) (k : Clock) : Quiet s { s with clock := k } :=
  ⟨⟨⟨rfl, id, id, id, id, id, id, id⟩, rfl, id, id⟩, rfl, rfl, fun _ _ => id⟩

theorem Quiet.pins (s : State) (x : Pins) : Quiet s { s with pins := x } :=
  ⟨⟨⟨rfl, id, id, id, id, id, id, id⟩, rfl, id, id⟩, rfl, rfl, fun _ _ => id⟩

theorem Quiet.outs (s : State) (x : Outputs) : Quiet s { s with outs := x } :=
  ⟨⟨⟨rfl, id, id, id, id, id, id, id⟩, rfl, id, id⟩, rfl, rfl, fun _ _ => id⟩

/-- The fire unit changes otherwise than in its recognized state. -/
theorem Quiet.fireUnit {s : State} {x : Fire} (h : x.active = s.fire.active) : Quiet s { s with fire := x } where
  toKeeps := ⟨⟨rfl, id, id, id, id, id, id, id⟩, rfl, id, id⟩
  fire := h
  records := rfl
  freed := fun _ _ => id

theorem Keeps.fireUnit (s : State) (x : Fire) : Keeps s { s with fire := x } :=
  ⟨⟨rfl, id, id, id, id, id, id, id⟩, rfl, id, id⟩

theorem Quiet.drive (s : State) : Quiet s s.drive := Quiet.outs s s.outputs

theorem Quiet.journalList {s : State} {l : List Record} (h : s.journal.length ≤ 512 → l.length ≤ 512) :
    Quiet s { s with journal := l } :=
  ⟨⟨⟨rfl, h, id, id, id, id, id, id⟩, rfl, id, id⟩, rfl, rfl, fun _ _ => id⟩

theorem Quiet.rosterList {s : State} {l : List RosterEntry} (h : RosterDistinct s → (l.map (·.id)).Nodup) :
    Quiet s { s with roster := l } :=
  ⟨⟨⟨rfl, id, id, id, id, id, id, h⟩, rfl, id, id⟩, rfl, rfl, fun _ _ => id⟩

/-- The queue and the ticket counter change within the law of the queue. -/
theorem Quiet.referralList {s : State} {l : List Referral} {k : Nat}
    (h : QueueLaw s → QueueLaw { s with referrals := l, ticketCounter := k }) :
    Quiet s { s with referrals := l, ticketCounter := k } :=
  ⟨⟨⟨rfl, id, h, id, id, id, id, id⟩, rfl, id, id⟩, rfl, rfl, fun _ _ => id⟩

/-- The Store changes within the law of its tables. -/
theorem Keeps.storeState {s : State} {x : Store} (hphase : x.phase = .restoring → s.store.phase = .restoring)
    (h : TablesRise s → TablesRise { s with store := x }) : Keeps s { s with store := x } :=
  ⟨⟨rfl, id, id, id, id, id, h, id⟩, rfl, hphase, id⟩

theorem Quiet.storeState {s : State} {x : Store} (hphase : x.phase = .restoring → s.store.phase = .restoring)
    (hrecords : x.mirror.portals = s.store.mirror.portals) (h : TablesRise s → TablesRise { s with store := x }) :
    Quiet s { s with store := x } :=
  ⟨Keeps.storeState hphase h, rfl, hrecords, fun _ _ => id⟩

/-- A portal changes within its two laws and keeps its mode. -/
theorem Quiet.portal {s : State} {p : Fin 16} {f : Portal → Portal}
    (hclosed : s.portals[p].Closed → (f s.portals[p]).Closed)
    (htogether : s.portals[p].FreeTogether → (f s.portals[p]).FreeTogether)
    (hmode : (f s.portals[p]).mode = s.portals[p].mode) : Quiet s (s.modPortal p f) where
  pending := rfl
  journal := id
  queue := id
  flags := id
  cycles := by
    intro h q
    show Portal.Closed (s.modPortal p f).portals[q]
    rw [State.modPortal_get]
    split
    case isTrue => exact hclosed (h p)
    case isFalse => exact h q
  sessions := id
  tables := id
  roster := id
  power := rfl
  phase := id
  together := by
    intro h q
    rw [State.modPortal_get]
    split
    case isTrue => exact htogether (h p)
    case isFalse => exact h q
  fire := rfl
  records := rfl
  freed := by
    intro q _ hfree
    rw [State.modPortal_get]
    split
    case isTrue heq => rw [hmode, heq, hfree]
    case isFalse => exact hfree

/-- A portal changes in nothing that its laws name. -/
theorem Quiet.portalDetail {s : State} {p : Fin 16} {f : Portal → Portal} (hleaf : (f s.portals[p]).leaf = s.portals[p].leaf)
    (hmode : (f s.portals[p]).mode = s.portals[p].mode)
    (hcycle : s.portals[p].Closed → (f s.portals[p]).Closed) : Quiet s (s.modPortal p f) :=
  Quiet.portal hcycle (by simp only [Portal.FreeTogether, hleaf, hmode, imp_self]) hmode

/-- A cycle of a portal that is not FREE ends in, or moves to, a leaf state that is not FREE. -/
theorem Quiet.portalLeaf {s : State} {p : Fin 16} {f : Portal → Portal} (hleaf : s.portals[p].leaf ≠ .free)
    (hleaf' : (f s.portals[p]).leaf ≠ .free) (hmode : (f s.portals[p]).mode = s.portals[p].mode)
    (hcycle : (f s.portals[p]).Closed) : Quiet s (s.modPortal p f) :=
  Quiet.portal (fun _ => hcycle) (by simp only [Portal.FreeTogether, hmode, hleaf, hleaf', imp_self]) hmode

/-- A car changes within the law of its session. -/
theorem Quiet.car {s : State} {c : Fin 4} {f : Car → Car}
    (h : s.cars[c].SessionAgrees → (f s.cars[c]).SessionAgrees) : Quiet s (s.modCar c f) where
  pending := rfl
  journal := id
  queue := id
  flags := id
  cycles := id
  sessions := by
    intro hall d
    show Car.SessionAgrees (s.modCar c f).cars[d]
    by_cases hd : c = d
    case pos =>
      subst hd
      rw [State.modCar_self]
      exact h (hall c)
    case neg =>
      rw [State.modCar_other _ _ _ _ hd]
      exact hall d
  tables := id
  roster := id
  power := rfl
  phase := id
  together := id
  fire := rfl
  records := rfl
  freed := fun _ _ => id

/-- A port changes within the flags that it has. -/
theorem Quiet.port {s : State} {p : Port} {f : PortState → PortState}
    (hflags : flagsAllowed p (s.port p).flags = true → flagsAllowed p (f (s.port p)).flags = true)
    (hmask : flagsAllowed p (s.port p).mask = true → flagsAllowed p (f (s.port p)).mask = true) :
    Quiet s (s.modPort p f) where
  pending := by simp
  journal := by simp [JournalBounded]
  queue := by simp [QueueLaw]
  flags := by
    intro h q
    by_cases hq : p = q
    case pos =>
      subst hq
      rw [State.modPort_self]
      exact ⟨hflags (h p).1, hmask (h p).2⟩
    case neg =>
      rw [State.modPort_other _ _ _ _ hq]
      exact h q
  cycles := by simp [CyclesClosed]
  sessions := by simp [SessionsAgree]
  tables := by simp [TablesRise]
  roster := by simp [RosterDistinct]
  power := by simp
  phase := by simp
  together := by simp
  fire := by simp
  records := by simp
  freed := by simp

/-- A port changes in nothing of its flags and its mask. -/
theorem Quiet.portDetail {s : State} {p : Port} {f : PortState → PortState} (hflags : (f (s.port p)).flags = (s.port p).flags)
    (hmask : (f (s.port p)).mask = (s.port p).mask) : Quiet s (s.modPort p f) :=
  Quiet.port (by rw [hflags]; exact id) (by rw [hmask]; exact id)

/-! ## Ports, flags and the journal -/

/-- The union of two sets of a port's flags is one. -/
theorem flagsAllowed_or {p : Port} {x y : Set16} (hx : flagsAllowed p x = true) (hy : flagsAllowed p y = true) :
    flagsAllowed p (x ||| y) = true := by
  simp only [flagsAllowed, beq_iff_eq] at *
  rw [BitVec.and_or_distrib_right, hx, hy]
  rfl

/-- A part of a set of a port's flags is one. -/
theorem flagsAllowed_and {p : Port} {x y : Set16} (hx : flagsAllowed p x = true) : flagsAllowed p (x &&& y) = true := by
  simp only [flagsAllowed, beq_iff_eq] at *
  rw [BitVec.and_assoc, BitVec.and_comm y, ← BitVec.and_assoc, hx]
  simp

theorem Quiet.raise (s : State) {p : Port} {f : Flag} (h : flagsAllowed p f.bit = true) : Quiet s (s.raise p f) :=
  Quiet.port (fun hflags => flagsAllowed_or hflags h) id

theorem Quiet.raiseBoth (s : State) {f : Flag} (ho : flagsAllowed .office f.bit = true)
    (hf : flagsAllowed .field f.bit = true) : Quiet s (s.raiseBoth f) :=
  (Quiet.raise s ho).trans (Quiet.raise _ hf)

theorem Quiet.holdReply (s : State) (p : Port) (r : Reply) : Quiet s (s.holdReply p r) := Quiet.portDetail rfl rfl

theorem Quiet.endFrame (s : State) (p : Port) : Quiet s (s.endFrame p) := Quiet.portDetail rfl rfl

theorem Quiet.openFrame (s : State) (p : Port) (f : FrameState) : Quiet s (s.openFrame p f) := Quiet.portDetail rfl rfl

theorem Quiet.append (s : State) (r : Record) : Quiet s (s.append r) := by
  unfold State.append Config.journalCapacity
  split
  case isTrue hroom =>
    have hgrow : Quiet s { s with journal := s.journal ++ [r] } := Quiet.journalList (by simp; omega)
    exact Quiet.ite (fun _ => hgrow.trans (Quiet.raise _ (by decide))) (fun _ => hgrow)
  case isFalse hfull =>
    refine Quiet.trans (Quiet.journalList ?_) (Quiet.raise _ (by decide))
    simp only [List.length_append, markGap_length, List.length_drop, List.length_cons, List.length_nil]
    omega

theorem Quiet.note (s : State) (k : Kind) (x y : Option Nat) : Quiet s (s.note k x y) := Quiet.append s _

end Sys2Proof.Machine

/-! PROOFS. KeptBlocks: every operation of the Roster, the cars, the Referral Queue and the Portal Controllers keeps the
laws (Chapters 4, 5, 7 and 8). -/

namespace Sys2Proof.Machine

/-! ## The Roster (Chapter 4) -/

theorem Mirror.wf_iff {m : Mirror} :
    m.wf = true ↔ m.units.wf = true ∧ m.tenancies.wf = true ∧ m.credentials.wf = true ∧ m.profiles.wf = true := by
  simp [Mirror.wf, and_assoc]

theorem Quiet.spendBudget (s : State) (id : Nat) : Quiet s (s.spendBudget id) := by
  unfold State.spendBudget
  split
  case h_1 => exact Quiet.refl s
  case h_2 =>
    split
    case h_1 => exact Quiet.refl s
    case h_2 =>
      refine Quiet.storeState ?phase ?records ?tables
      case phase => simp
      case records => simp
      case tables =>
        rintro ⟨hslots, hmirror, hduplicates⟩
        obtain ⟨hunits, htenancies, hcredentials, hprofiles⟩ := Mirror.wf_iff.mp hmirror
        refine ⟨by simpa using hslots, ?_, by simpa using hduplicates⟩
        rw [(Store.mark_frame _ _).2.2.1]
        exact Mirror.wf_iff.mpr ⟨hunits, htenancies, Table.put_wf _ _ hcredentials, hprofiles⟩

/-- An entry whose id no entry has joins the roster. -/
theorem Quiet.createEntry {s : State} {id : Nat} (h : s.entryOf id = none) (zone : Nat) :
    Quiet s (s.createEntry id zone) := by
  refine Quiet.trans (Quiet.rosterList ?_) (Quiet.spendBudget _ id)
  intro hnodup
  have hnew : id ∉ s.roster.map (·.id) := by
    simpa [State.entryOf, List.find?_eq_none] using h
  rw [List.map_append, List.map_singleton]
  exact List.nodup_append.mpr ⟨hnodup, by simp, fun a ha b hb => by
    rw [List.mem_singleton] at hb
    subst hb
    exact fun heq => hnew (heq ▸ ha)⟩

/-- Entries change in their place and keep their ids. -/
theorem Quiet.rosterMap (s : State) {f : RosterEntry → RosterEntry} (hid : ∀ e, (f e).id = e.id) :
    Quiet s { s with roster := s.roster.map f } := by
  have hids : (s.roster.map f).map (·.id) = s.roster.map (·.id) := by simp [hid]
  exact Quiet.rosterList (fun h => hids ▸ h)

theorem Quiet.modEntry (s : State) (id : Nat) {f : RosterEntry → RosterEntry} (hid : ∀ e, (f e).id = e.id) :
    Quiet s (s.modEntry id f) :=
  Quiet.rosterMap s (fun e => by split <;> simp [hid])

/-- Entries leave the roster. -/
theorem Quiet.rosterFilter (s : State) (f : RosterEntry → Bool) : Quiet s { s with roster := s.roster.filter f } :=
  Quiet.rosterList (fun h => h.sublist (List.filter_sublist.map _))

/-- A session that is settled agrees with its passengers, if it did for a list that held all of them. -/
theorem Car.settleSession_agrees {u : Car} (h : u.passengers ≠ [] → u.session = .opened ∧ u.timer.isSome = true) :
    u.settleSession.SessionAgrees := by
  unfold Car.settleSession
  split
  case isTrue hempty =>
    have hnone := List.isEmpty_iff.mp hempty
    simp [Car.SessionAgrees, hnone]
  case isFalse hsome =>
    have hne : u.passengers ≠ [] := fun e => hsome (List.isEmpty_iff.mpr e)
    simp [Car.SessionAgrees, hne, h hne]

theorem Car.remove_agrees {u : Car} (id : Nat) (h : u.SessionAgrees) : (u.remove id).SessionAgrees := by
  refine Car.settleSession_agrees (fun hne => ?_)
  have hsome : u.passengers ≠ [] := fun e => hne (by simp [e])
  exact ⟨h.1.mpr hsome, h.2.mpr hsome⟩

theorem Car.clear_agrees (u : Car) : u.clear.SessionAgrees := by
  simp [Car.SessionAgrees, Car.clear]

theorem Quiet.removePassenger (s : State) (c : Fin 4) (id : Nat) : Quiet s (s.modCar c (·.remove id)) :=
  Quiet.car (Car.remove_agrees id)

theorem Quiet.clearCar (s : State) (c : Fin 4) : Quiet s (s.modCar c Car.clear) := Quiet.car (fun _ => Car.clear_agrees _)

theorem Quiet.removeEntry (s : State) (id : Nat) : Quiet s (s.removeEntry id) := by
  have hleave := Quiet.rosterFilter s (fun e => e.id != id)
  cases hcar : (s.entryOf id).bind (·.car) with
  | none => rwa [State.removeEntry_of_no_car hcar]
  | some c =>
    rw [State.removeEntry_of_car hcar]
    exact hleave.trans (Quiet.removePassenger _ c id)

theorem Quiet.applyMove (s : State) (m : Move) : Quiet s (s.applyMove m) := by
  unfold State.applyMove
  split
  case h_1 hentry => exact Quiet.ite (fun _ => Quiet.createEntry hentry _) (fun _ => Quiet.refl s)
  case h_2 => exact Quiet.ite (fun _ => Quiet.removeEntry s _) (fun _ => Quiet.modEntry s _ (fun _ => rfl))

theorem Quiet.commit (s : State) (m : Move) : Quiet s (s.commit m) :=
  Quiet.ite (fun _ => Quiet.refl s) (fun _ => Quiet.applyMove s m)

theorem Quiet.commitAll (s : State) (ms : List Move) : Quiet s (s.commitAll ms) := Quiet.foldl Quiet.commit ms s

theorem Quiet.raiseOverstay (s : State) (x y : RosterEntry) : Quiet s (raiseOverstay s x y) :=
  Quiet.ite (fun _ => (Quiet.append s _).trans (Quiet.raise _ (by decide))) (fun _ => Quiet.refl s)

theorem State.stepEntry_id (s : State) (e : RosterEntry) : (s.stepEntry e).id = e.id := by
  unfold State.stepEntry
  split <;> rfl

theorem Quiet.countOutOfWindow (s : State) : Quiet s s.countOutOfWindow := by
  refine Quiet.ite (fun _ => Quiet.refl s) (fun _ => ?_)
  refine Quiet.trans ?_ (Quiet.foldl (fun t (pair : RosterEntry × RosterEntry) => Quiet.raiseOverstay t pair.1 pair.2) _ _)
  rw [List.map_map]
  exact Quiet.rosterMap s s.stepEntry_id

theorem Quiet.markAll (s : State) : Quiet s s.markAll := Quiet.rosterMap s (fun _ => rfl)

theorem Quiet.releaseFromCar (s : State) (id : Nat) : Quiet s (s.releaseFromCar id) := Quiet.modEntry s id (fun _ => rfl)

theorem Quiet.noteDropped (s : State) (id : Option Nat) (n : Nat) : Quiet s (s.noteDropped id n) := Quiet.append s _

theorem Quiet.dropFromRoster (s : State) (id : Nat) : Quiet s (s.dropFromRoster id) :=
  Quiet.ite (fun _ => (Quiet.removeEntry s id).trans (Quiet.noteDropped _ _ _)) (fun _ => Quiet.refl s)

/-! ## Cars (Chapter 7) -/

theorem Quiet.alight (zone : Nat) (s : State) (q : Passenger) : Quiet s (alight zone s q) :=
  (Quiet.releaseFromCar s q.id).trans
    (Quiet.ite (fun _ => Quiet.refl _) (fun _ => Quiet.modEntry _ _ (fun _ => rfl)))

/-- Alighting passengers leave the cars as they were: a car loses them when the arrival sets its list. -/
theorem foldl_alight_cars (zone : Nat) (l : List Passenger) (s : State) : (l.foldl (alight zone) s).cars = s.cars :=
  foldl_keeps (·.cars) (alight zone) (fun s q => by simp) l s

theorem Quiet.arrive (s : State) (c : Fin 4) (n : Nat) : Quiet s (s.arrive c n) := by
  unfold State.arrive
  dsimp only
  refine (Quiet.foldl (Quiet.alight _) _ s).trans (Quiet.car ?_)
  rw [foldl_alight_cars]
  refine fun h => Car.settleSession_agrees (fun hne => ?_)
  have hsome : s.cars[c].passengers ≠ [] := fun e => hne (by rw [e]; rfl)
  exact ⟨h.1.mpr hsome, h.2.mpr hsome⟩

theorem Quiet.expireSession (s : State) (c : Fin 4) : Quiet s (s.expireSession c) :=
  ((Quiet.foldl (fun t (q : Passenger) => Quiet.releaseFromCar t q.id) _ s).trans (Quiet.clearCar _ c)).trans (Quiet.note _ _ _ _)

theorem Car.grant_agrees (u : Car) (id : Nat) (landings : Set16) (expiry : Nat) :
    (u.grant id landings expiry).SessionAgrees := by
  have hne : (u.grant id landings expiry).passengers ≠ [] := by
    unfold Car.grant Car.carries
    split
    case isTrue hcarries =>
      obtain ⟨q, hq, _⟩ := List.any_eq_true.mp hcarries
      simp [List.ne_nil_of_mem hq]
    case isFalse => simp
  exact ⟨⟨fun _ => hne, fun _ => rfl⟩, ⟨fun _ => hne, fun _ => rfl⟩⟩

theorem Quiet.grantRide (s : State) (c : Fin 4) (id : Nat) (landings : Set16) : Quiet s (s.grantRide c id landings) := by
  unfold State.grantRide
  refine Quiet.trans ?_ (Quiet.car (fun _ => Car.grant_agrees _ _ _ _))
  exact Quiet.ite (fun _ => Quiet.refl s) (fun _ => Quiet.modEntry s id (fun _ => rfl))

theorem Car.takeUp_agrees {u : Car} (r : CarRec) (h : u.SessionAgrees) : (u.takeUp r).SessionAgrees := by
  unfold Car.takeUp
  split
  case h_1 => split <;> exact h
  case h_2 => exact h

theorem Quiet.takeUpCar (s : State) (c : Fin 4) (r : CarRec) : Quiet s (s.modCar c (·.takeUp r)) :=
  Quiet.car (Car.takeUp_agrees r)

/-! ## The Referral Queue (Chapter 8) -/

@[simp] theorem resolveIn_ticket (n : Nat) (o : EntryOutcome) (e : Referral) : (resolveIn n o e).ticket = e.ticket := by
  unfold resolveIn
  split <;> rfl

theorem Quiet.resolve (s : State) (e : Referral) (o : EntryOutcome) : Quiet s (s.resolve e o) := by
  refine ((Quiet.referralList (k := s.ticketCounter) ?_).trans (Quiet.append _ _)).trans (Quiet.raise _ (by decide))
  rintro ⟨hlength, hnodup, hrange, hcounter⟩
  have htickets : (s.referrals.map (resolveIn e.ticket o)).map (·.ticket) = s.referrals.map (·.ticket) := by simp
  refine ⟨by simpa using hlength, htickets ▸ hnodup, ?_, hcounter⟩
  intro x hx
  obtain ⟨y, hy, rfl⟩ := List.mem_map.mp hx
  simpa using hrange y hy

theorem Quiet.resolveAll (s : State) (es : List Referral) (o : EntryOutcome) : Quiet s (s.resolveAll es o) :=
  Quiet.foldl (fun t e => Quiet.resolve t e o) es s

theorem Quiet.freeReferrals (s : State) (p : Fin 16) : Quiet s (s.freeReferrals p) := Quiet.resolveAll s _ _

theorem Quiet.cancelReferrals (s : State) (id : Nat) : Quiet s (s.cancelReferrals id) := Quiet.resolveAll s _ _

theorem Quiet.removeReferral (s : State) (ticket : Nat) : Quiet s (s.removeReferral ticket) := by
  refine Quiet.referralList (k := s.ticketCounter) ?_
  rintro ⟨hlength, hnodup, hrange, hcounter⟩
  exact ⟨(List.length_filter_le _ _).trans hlength, hnodup.sublist (List.filter_sublist.map _),
    fun x hx => hrange x (List.mem_of_mem_filter hx), hcounter⟩

theorem ticketAfter_range (n : Nat) : 1 ≤ ticketAfter n ∧ ticketAfter n ≤ 255 := by
  unfold ticketAfter
  split <;> omega

/-- The tickets tried from a candidate on. -/
def ticketsFrom : Nat → Nat → List Nat
  | 0, _ => []
  | k + 1, n => n :: ticketsFrom k (ticketAfter n)

theorem ticketsFrom_length (k n : Nat) : (ticketsFrom k n).length = k := by
  induction k generalizing n with
  | zero => rfl
  | succ k ih => simp [ticketsFrom, ih]

/-- The tickets tried are the candidate and those that follow it, with 255 followed by 1. -/
theorem ticketsFrom_eq (k n : Nat) (hn : 1 ≤ n ∧ n ≤ 255) :
    ticketsFrom k n = (List.range k).map (fun i => (n - 1 + i) % 255 + 1) := by
  induction k generalizing n with
  | zero => rfl
  | succ k ih =>
    rw [ticketsFrom, ih _ (ticketAfter_range n), List.range_succ_eq_map, List.map_cons, List.map_map]
    refine congrArg₂ _ (by omega) (List.map_congr_left fun i _ => ?_)
    simp only [Function.comp_apply, ticketAfter]
    split <;> omega

theorem ticketsFrom_nodup {k n : Nat} (hk : k ≤ 255) (hn : 1 ≤ n ∧ n ≤ 255) : (ticketsFrom k n).Nodup := by
  rw [ticketsFrom_eq k n hn]
  refine List.Nodup.map_on ?_ List.nodup_range
  intro i hi j hj heq
  rw [List.mem_range] at hi hj
  omega

/-- The ticket taken is free, unless every ticket tried is held. -/
theorem freeTicket_or (held : List Nat) (k n : Nat) :
    freeTicket held k n ∉ held ∨ ∀ x ∈ ticketsFrom k n, x ∈ held := by
  induction k generalizing n with
  | zero => exact .inr (by simp [ticketsFrom])
  | succ k ih =>
    unfold freeTicket
    split
    case isTrue hheld =>
      have hn : n ∈ held := by simpa using hheld
      exact (ih (ticketAfter n)).imp_right (fun hrest => by simpa [ticketsFrom, hn] using hrest)
    case isFalse hfree => exact .inl (by simpa using hfree)

theorem freeTicket_range (held : List Nat) (k n : Nat) (hn : 1 ≤ n ∧ n ≤ 255) :
    1 ≤ freeTicket held k n ∧ freeTicket held k n ≤ 255 := by
  induction k generalizing n with
  | zero => exact hn
  | succ k ih =>
    unfold freeTicket
    split
    case isTrue => exact ih _ (ticketAfter_range n)
    case isFalse => exact hn

/-- A queue with a free place leaves one of the eight tickets tried free. -/
theorem State.nextTicket_free {s : State} (hplace : s.queueHasPlace = true)
    (hcounter : 1 ≤ s.ticketCounter ∧ s.ticketCounter ≤ 255) : s.nextTicket ∉ s.referrals.map (·.ticket) := by
  have hroom : s.referrals.length < 8 := of_decide_eq_true hplace
  refine (freeTicket_or (s.referrals.map (·.ticket)) 8 s.ticketCounter).resolve_right (fun hall => ?_)
  have hlength := ((ticketsFrom_nodup (by decide) hcounter).subperm hall).length_le
  rw [ticketsFrom_length, List.length_map] at hlength
  omega

theorem Quiet.refer {s : State} (hplace : s.queueHasPlace = true) (p : Fin 16) (id tenancy : Nat) (reason : Reason) :
    Quiet s (s.refer p id tenancy reason) := by
  refine ((Quiet.referralList ?_).trans (Quiet.append _ _)).trans (Quiet.raise _ (by decide))
  rintro ⟨_, hnodup, hrange, hcounter⟩
  have hroom : s.referrals.length < 8 := of_decide_eq_true hplace
  have hfree := State.nextTicket_free hplace hcounter
  refine ⟨by simp; omega, ?_, ?_, ticketAfter_range _⟩
  · rw [List.map_append, List.map_singleton]
    refine List.nodup_append.mpr ⟨hnodup, by simp, fun a ha b hb heq => hfree ?_⟩
    have hsame : a = s.nextTicket := heq.trans (List.mem_singleton.mp hb)
    exact hsame ▸ ha
  · intro e he
    rcases List.mem_append.mp he with hold | hnew
    · exact hrange e hold
    · rw [List.mem_singleton.mp hnew]
      exact freeTicket_range _ _ _ hcounter

/-! ## The Portal Controllers (Chapter 5) -/

theorem Quiet.judgeSchedule (s : State) (p : Fin 16) : Quiet s (s.judgeSchedule p) := Quiet.portalDetail rfl rfl id

/-- The unlock timer is preset in RELEASED. -/
theorem Quiet.presetUnlock {s : State} {p : Fin 16} (hleaf : s.portals[p].leaf = .released) :
    Quiet s (s.presetUnlock p) :=
  Quiet.portalDetail rfl rfl (fun _ => Portal.closed_of_leaf (hleaf.trans_ne (by decide)) (hleaf.trans_ne (by decide)))

theorem Quiet.discardAll (s : State) (p : Fin 16) (ms : List Move) : Quiet s (s.discardAll p ms) :=
  Quiet.foldl (fun t _ => Quiet.append t _) ms s

/-- A cycle ends in SECURE at a portal that is not FREE. -/
theorem Quiet.endCycle {s : State} {p : Fin 16} (hleaf : s.portals[p].leaf ≠ .free) {l : LeafState} (hl : l ≠ .free) :
    Quiet s (s.modPortal p (Portal.endCycle l)) :=
  Quiet.portalLeaf hleaf hl rfl (Portal.endCycle_closed l _)

theorem Quiet.lapse {s : State} {p : Fin 16} (hleaf : s.portals[p].leaf = .released) : Quiet s (s.lapse p) := by
  have hend : Quiet s (s.modPortal p (Portal.endCycle .secure)) := Quiet.endCycle (hleaf.trans_ne (by decide)) (by simp)
  exact hend.trans (Quiet.ite (fun _ => Quiet.discardAll _ _ _) (fun _ => Quiet.commitAll _ _))

theorem Quiet.judgeTailgate (s : State) (p : Fin 16) (q : Portal) : Quiet s (s.judgeTailgate p q) :=
  Quiet.ite (fun _ => (Quiet.note s _ _ _).trans (Quiet.raiseBoth _ (by decide) (by decide))) (fun _ => Quiet.refl s)

/-- A cycle begins at a SECURE portal, and its unlock timer is preset. -/
theorem Quiet.releasePortal {s : State} {p : Fin 16} (hleaf : s.portals[p].leaf = .secure) (ms : List Move) :
    Quiet s ((s.modPortal p (Portal.release ms)).presetUnlock p) := by
  refine Quiet.trans (Quiet.portalLeaf (hleaf.trans_ne (by decide)) (by simp [Portal.release]) rfl
    (Portal.closed_of_leaf (by simp [Portal.release]) (by simp [Portal.release]))) (Quiet.presetUnlock ?_)
  rw [State.modPortal_self]
  rfl

/-- A RELEASED portal gains grants and moves, and its unlock timer is preset. -/
theorem Quiet.extendRelease {s : State} {p : Fin 16} (hleaf : s.portals[p].leaf = .released) {f : Portal → Portal}
    (hf : (f s.portals[p]).leaf = s.portals[p].leaf) (hm : (f s.portals[p]).mode = s.portals[p].mode) :
    Quiet s ((s.modPortal p f).presetUnlock p) := by
  have hleaf' := hf.trans hleaf
  refine Quiet.trans (Quiet.portalDetail hf hm (fun _ => Portal.closed_of_leaf (hleaf'.trans_ne (by decide))
    (hleaf'.trans_ne (by decide)))) (Quiet.presetUnlock ?_)
  rw [State.modPortal_self, hf, hleaf]

/-- The grants of a cycle change in a leaf state that a cycle has. -/
theorem Quiet.modGrants {s : State} {p : Fin 16} (hs : s.portals[p].leaf ≠ .secure) (hf : s.portals[p].leaf ≠ .free)
    (g : Portal → Nat) : Quiet s (s.modPortal p (fun q => { q with grants := g q })) :=
  Quiet.portalDetail rfl rfl (fun _ => Portal.closed_of_leaf hs hf)

theorem Quiet.grantMove (s : State) (p : Fin 16) (m : Move) : Quiet s (s.grantMove p m) := by
  unfold State.grantMove
  cases hleaf : s.portals[p].leaf with
  | secure => exact Quiet.releasePortal hleaf [m]
  | released => exact Quiet.extendRelease hleaf rfl rfl
  | opened | held => exact (Quiet.modGrants (hleaf.trans_ne (by decide)) (hleaf.trans_ne (by decide)) _).trans (Quiet.commit _ _)
  | forced | free => exact Quiet.refl s

theorem Quiet.regrant (s : State) (p : Fin 16) : Quiet s (s.regrant p) :=
  Quiet.ite (fun hleaf => Quiet.presetUnlock hleaf) (fun _ => Quiet.refl s)

theorem Quiet.expireUnlock (s : State) (p : Fin 16) : Quiet s (s.expireUnlock p) :=
  Quiet.ite (fun hleaf => Quiet.lapse hleaf) (fun _ => Quiet.refl s)

theorem Quiet.expireHeld (s : State) (p : Fin 16) : Quiet s (s.expireHeld p) := by
  refine Quiet.ite (fun hleaf => ?_) (fun _ => Quiet.refl s)
  refine (Quiet.trans (Quiet.portalLeaf (hleaf.trans_ne (by decide)) (by simp) rfl
    (Portal.closed_of_leaf (by simp) (by simp))) (Quiet.note _ _ _ _)).trans (Quiet.raiseBoth _ (by decide) (by decide))

/-- The recognized position of the leaf, with its debounce timer, is noted. -/
theorem Quiet.notePosition (s : State) (p : Fin 16) (x : LeafPosition) (d : Option Nat) :
    Quiet s (s.modPortal p (fun q => { q with position := x, leafDebounce := d })) :=
  Quiet.portalDetail rfl rfl id

/-- A portal that is found open begins a fresh cycle. -/
theorem Quiet.foundOpen {s : State} {p : Fin 16} (hleaf : s.portals[p].leaf ≠ .free) (h : HeldTimer) :
    Quiet s (s.modPortal p (Portal.foundOpen h)) :=
  Quiet.portalLeaf hleaf (by simp [Portal.foundOpen, Portal.endCycle]) rfl
    (Portal.closed_of_leaf (by simp [Portal.foundOpen, Portal.endCycle]) (by simp [Portal.foundOpen, Portal.endCycle]))

theorem Quiet.leafOpened (s : State) (p : Fin 16) : Quiet s (s.leafOpened p) := by
  have hnoted := Quiet.notePosition s p .opened none
  have hstill : (s.modPortal p (fun q => { q with position := .opened, leafDebounce := none })).portals[p].leaf
      = s.portals[p].leaf := by rw [State.modPortal_self]
  unfold State.leafOpened
  dsimp only
  refine hnoted.trans ?_
  generalize s.modPortal p (fun q => { q with position := .opened, leafDebounce := none }) = t at hstill ⊢
  cases hleaf : s.portals[p].leaf with
  | released =>
    rw [hleaf] at hstill
    refine Quiet.trans (Quiet.portalLeaf (hstill.trans_ne (by decide)) (by simp) rfl ?_) (Quiet.commitAll _ _)
    exact Portal.closed_of_leaf (by simp) (by simp)
  | secure =>
    rw [hleaf] at hstill
    refine Quiet.ite (fun _ => Quiet.foundOpen (hstill.trans_ne (by decide)) _) (fun _ => ?_)
    exact ((Quiet.endCycle (hstill.trans_ne (by decide)) (by simp)).trans (Quiet.note _ _ _ _)).trans
      (Quiet.raiseBoth _ (by decide) (by decide))
  | opened | held | forced | free => exact Quiet.refl t

theorem Quiet.closeLeaf (s : State) (p : Fin 16) : Quiet s (s.closeLeaf p) := by
  unfold State.closeLeaf
  dsimp only
  cases hleaf : s.portals[p].leaf with
  | opened => exact (Quiet.endCycle (hleaf.trans_ne (by decide)) (by simp)).trans (Quiet.judgeTailgate _ _ _)
  | held =>
    exact ((Quiet.endCycle (hleaf.trans_ne (by decide)) (by simp)).trans (Quiet.note _ _ _ _)).trans (Quiet.judgeTailgate _ _ _)
  | forced => exact (Quiet.endCycle (hleaf.trans_ne (by decide)) (by simp)).trans (Quiet.note _ _ _ _)
  | secure | released | free => exact Quiet.refl s

theorem Quiet.leafClosed (s : State) (p : Fin 16) : Quiet s (s.leafClosed p) :=
  (Quiet.notePosition s p .closed none).trans (Quiet.closeLeaf _ p)

theorem Quiet.debounceLeaf (s : State) (p : Fin 16) (asserted : Bool) : Quiet s (s.debounceLeaf p asserted) :=
  Quiet.ite (fun _ => Quiet.portalDetail rfl rfl id) (fun _ => Quiet.refl s)

theorem Quiet.debounceExit (s : State) (p : Fin 16) (asserted : Bool) : Quiet s (s.debounceExit p asserted) :=
  Quiet.portalDetail rfl rfl id

theorem Quiet.pressExit (s : State) (p : Fin 16) : Quiet s (s.pressExit p) := by
  unfold State.pressExit
  dsimp only
  split
  case isTrue => exact Quiet.refl s
  case isFalse hlive =>
    have hfree : s.portals[p].leaf ≠ .free := fun h => hlive (by rw [h]; simp)
    cases s.busyFor p with
    | some condition => exact Quiet.note s _ _ _
    | none =>
      refine Quiet.trans ?_ (Quiet.note _ _ _ _)
      cases hleaf : s.portals[p].leaf with
      | secure => exact Quiet.releasePortal hleaf []
      | released => exact Quiet.extendRelease hleaf rfl rfl
      | opened | held | forced | free => exact Quiet.modGrants (hleaf.trans_ne (by decide)) hfree _

theorem Quiet.exitPressed (s : State) (p : Fin 16) : Quiet s (s.exitPressed p) :=
  Quiet.trans (Quiet.portalDetail rfl rfl id) (Quiet.ite (fun _ => Quiet.pressExit _ p) (fun _ => Quiet.refl _))

theorem Quiet.exitReleased (s : State) (p : Fin 16) : Quiet s (s.exitReleased p) := Quiet.portalDetail rfl rfl id

theorem Quiet.rearm (s : State) (p : Fin 16) : Quiet s (s.rearm p) := Quiet.portalDetail rfl rfl id

/-- A passage is counted in a leaf state that a cycle has. -/
theorem Portal.interrupted_closed {q : Portal} (h : q.Closed) : q.interrupted.Closed := by
  intro hleaf
  obtain ⟨hgrants, hpassages, hrest⟩ := h hleaf
  refine ⟨hgrants, ?_, hrest⟩
  rcases hleaf with hleaf | hleaf <;>
    · have hleaf : q.leaf = _ := hleaf
      simp [Portal.interrupted, LeafState.countsPassages, hleaf, hpassages]

theorem Quiet.interrupt (s : State) (p : Fin 16) : Quiet s (s.interrupt p) :=
  Quiet.portalDetail rfl rfl Portal.interrupted_closed

/-- The moves of a credential leave a portal's list. -/
theorem Quiet.filterMoves (s : State) (p : Fin 16) (f : Move → Bool) :
    Quiet s (s.modPortal p (fun q => { q with moves := q.moves.filter f })) := by
  refine Quiet.portalDetail rfl rfl (fun h hleaf => ?_)
  obtain ⟨hgrants, hpassages, htailgate, hmoves, hrest⟩ := h hleaf
  exact ⟨hgrants, hpassages, htailgate, by rw [hmoves]; rfl, hrest⟩

theorem Quiet.dropMoves (s : State) (id : Nat) : Quiet s (s.dropMoves id) :=
  Quiet.foldl (fun t p => Quiet.filterMoves t p _) allPortals s

/-! ## A new effective mode (R99 to R103) -/

/-- A portal changes within the law of its cycle, its mode with it. -/
theorem Laws.portal {s : State} {p : Fin 16} {f : Portal → Portal} (h : s.portals[p].Closed → (f s.portals[p]).Closed) :
    Laws s (s.modPortal p f) where
  pending := rfl
  journal := id
  queue := id
  flags := id
  cycles := by
    intro hall q
    show Portal.Closed (s.modPortal p f).portals[q]
    rw [State.modPortal_get]
    split
    case isTrue => exact h (hall p)
    case isFalse => exact hall q
  sessions := id
  tables := id
  roster := id

theorem Laws.freePortal (s : State) (p : Fin 16) : Laws s (s.freePortal p) := by
  have hend : Laws s (s.modPortal p (Portal.endCycle .free)) := Laws.portal (fun _ => Portal.endCycle_closed _ _)
  unfold State.freePortal
  dsimp only
  refine (hend.trans (Quiet.discardAll _ p s.portals[p].moves).toLaws).trans (Laws.trans ?_ (Quiet.freeReferrals _ _).toLaws)
  split
  case h_1 | h_2 => exact (Quiet.note _ _ _ _).toLaws
  case h_3 | h_4 | h_5 | h_6 => exact Laws.refl _

theorem Laws.leaveFree (s : State) (p : Fin 16) : Laws s (s.leaveFree p) := by
  unfold State.leaveFree
  split
  case isTrue =>
    exact Laws.portal (fun _ => Portal.closed_of_leaf (by simp [Portal.foundOpen, Portal.endCycle])
      (by simp [Portal.foundOpen, Portal.endCycle]))
  case isFalse => exact Laws.portal (fun _ => Portal.endCycle_closed _ _)

/-- A portal has its new mode, the MODE record is appended and MODE_CHANGE is raised; what the mode does to the leaf state
comes after (R100). -/
def State.announceMode (s : State) (p : Fin 16) (m : Mode) : State :=
  let t := s.modPortal p (fun q => { q with mode := m })
  (t.append { s.blankRecord .mode with subject := some p.val, outcome := some (.mode m) }).raise .field .modeChange

/-- What a mode that has been announced does to the leaf state (R101 to R103). -/
theorem State.enterMode_eq (s : State) (p : Fin 16) (m : Mode) :
    s.enterMode p m =
      if m = .free then (s.announceMode p m).freePortal p
      else if s.portals[p].mode = .free then (s.announceMode p m).leaveFree p
      else if m = .locked && s.portals[p].leaf = .released then (s.announceMode p m).lapse p
      else s.announceMode p m :=
  rfl

theorem State.announceMode_self (s : State) (p : Fin 16) (m : Mode) :
    (s.announceMode p m).portals[p] = { s.portals[p] with mode := m } := by
  simp [State.announceMode]

theorem Laws.announceMode (s : State) (p : Fin 16) (m : Mode) : Laws s (s.announceMode p m) := by
  have hmode : Laws s (s.modPortal p (fun q => { q with mode := m })) := Laws.portal id
  exact hmode.trans ((Quiet.append _ _).trans (Quiet.raise _ (by decide))).toLaws

theorem Laws.enterMode (s : State) (p : Fin 16) (m : Mode) : Laws s (s.enterMode p m) := by
  rw [State.enterMode_eq]
  refine (Laws.announceMode s p m).trans ?_
  split
  case isTrue => exact Laws.freePortal _ p
  case isFalse =>
    split
    case isTrue => exact Laws.leaveFree _ p
    case isFalse =>
      split
      case isTrue hlocked =>
        rw [Bool.and_eq_true, decide_eq_true_eq, decide_eq_true_eq] at hlocked
        refine (Quiet.lapse ?_).toLaws
        rw [State.announceMode_self]
        exact hlocked.2
      case isFalse => exact Laws.refl _

/-- Commits of a lapse apart, a new mode leaves the Store. -/
theorem State.enterMode_store (s : State) (p : Fin 16) (m : Mode) :
    (s.enterMode p m).store.phase = s.store.phase
      ∧ (s.enterMode p m).store.mirror.portals = s.store.mirror.portals := by
  have hcommits : ∀ (t : State) (ms : List Move), (t.commitAll ms).store.mirror.portals = t.store.mirror.portals :=
    fun t ms => foldl_keeps (·.store.mirror.portals) State.commit (fun t m => (t.commit_store m).2) ms t
  unfold State.enterMode State.lapse
  dsimp only
  repeat' split
  all_goals simp [State.commitAll_phase, hcommits]

/-- The leaf state of a portal that has entered a mode (R101 to R103). -/
theorem State.enterMode_leaf (s : State) (p : Fin 16) (m : Mode) :
    (s.enterMode p m).portals[p].leaf =
      if m = .free then .free
      else if s.portals[p].mode = .free then (if s.portals[p].position = .opened then .opened else .secure)
      else if m = .locked ∧ s.portals[p].leaf = .released then .secure
      else s.portals[p].leaf := by
  unfold State.enterMode State.leaveFree
  dsimp only
  by_cases hfree : m = .free
  case pos => simp [hfree, Portal.endCycle]
  case neg =>
    by_cases hleave : s.portals[p].mode = .free
    case pos =>
      by_cases hopen : s.portals[p].position = .opened
      all_goals
        simp only [Fin.getElem_fin] at hleave hopen
        simp [hfree, hleave, hopen, Portal.foundOpen, Portal.endCycle]
    case neg =>
      by_cases hlock : m = .locked ∧ s.portals[p].leaf = .released
      all_goals
        simp only [Fin.getElem_fin] at hleave hlock
        simp [hfree, hleave, hlock, Portal.endCycle]

theorem Keeps.enterMode (s : State) (p : Fin 16) (m : Mode) : Keeps s (s.enterMode p m) where
  toLaws := Laws.enterMode s p m
  power := by simp
  phase := by
    rw [(s.enterMode_store p m).1]
    exact id
  together := by
    intro h q
    by_cases hq : q = p
    case neg =>
      rw [State.enterMode_other _ _ _ _ hq]
      exact h q
    case pos =>
      subst hq
      have hself := h q
      have hmode : (s.enterMode q m).portals[q].mode = m := (s.enterMode_val q m).1
      unfold Portal.FreeTogether at hself ⊢
      rw [hmode, State.enterMode_leaf]
      repeat' split
      all_goals simp_all

theorem Quiet.recomputeMode (s : State) (p : Fin 16) : Quiet s (s.recomputeMode p) := by
  unfold State.recomputeMode
  split
  case isTrue => exact Quiet.refl s
  case isFalse =>
    refine ⟨Keeps.enterMode s p _, by simp, (s.enterMode_store p _).2, fun q hunder hfree => ?_⟩
    by_cases hq : q = p
    case neg => rw [State.enterMode_other _ _ _ _ hq, hfree]
    case pos =>
      subst hq
      have hmode : (s.enterMode q (s.effectiveMode q)).portals[q].mode = s.effectiveMode q := (s.enterMode_val q _).1
      rw [hmode, State.effectiveMode, if_pos hunder]

/-- After its mode has been recomputed, an egress portal under fire is FREE. -/
theorem State.recomputeMode_freed {s : State} {p : Fin 16} (h : s.egressUnderFire p = true) :
    (s.recomputeMode p).portals[p].mode = .free := by
  rw [State.recomputeMode_mode, State.effectiveMode, if_pos h]

theorem Quiet.portalBoundary (s : State) (p : Fin 16) : Quiet s (s.portalBoundary p) :=
  (Quiet.judgeSchedule s p).trans (Quiet.recomputeMode _ p)

theorem Quiet.takeUpSensor (s : State) (p : Fin 16) (old : PortalRec) : Quiet s (s.takeUpSensor p old) :=
  Quiet.ite (fun _ => (Quiet.notePosition s p _ _).trans (Quiet.closeLeaf _ p))
    (fun _ => Quiet.ite (fun _ => Quiet.notePosition s p _ _) (fun _ => Quiet.refl s))

theorem Quiet.takeUpBeam (s : State) (p : Fin 16) (old : PortalRec) : Quiet s (s.takeUpBeam p old) :=
  Quiet.ite (fun _ => Quiet.portalDetail rfl rfl id)
    (fun _ => Quiet.ite (fun _ => Quiet.portalDetail rfl rfl id) (fun _ => Quiet.refl s))

theorem Quiet.takeUpPortal (s : State) (p : Fin 16) (old : PortalRec) : Quiet s (s.takeUpPortal p old) :=
  ((Quiet.takeUpSensor s p old).trans (Quiet.takeUpBeam _ p old)).trans (Quiet.portalBoundary _ p)

theorem Quiet.takeClear (s : State) (p : Fin 16) : Quiet s (s.takeClear p) :=
  Quiet.trans (Quiet.portalDetail rfl rfl id) (Quiet.recomputeMode _ p)

theorem Quiet.awaitRecompute (s : State) (p : Fin 16) : Quiet s (awaitRecompute s p) := Quiet.portalDetail rfl rfl id

end Sys2Proof.Machine

/-! PROOFS. KeptStore: every operation of the Tenancy Store keeps the laws, and a put or a rebuild that changes portal
records leaves the egress portals free under fire (Chapter 1). -/

namespace Sys2Proof.Machine

/-! ## Tables of the slots and of the mirror (R1, R2, log entry 29) -/

theorem Slots.wf_iff {t : Slots} :
    t.wf = true ↔ t.units.wf = true ∧ t.tenancies.wf = true ∧ t.credentials.wf = true ∧ t.profiles.wf = true
      ∧ t.portals.wf = true ∧ t.cars.wf = true := by
  simp [Slots.wf, and_assoc]

theorem Slots.program_wf {t : Slots} (h : t.wf = true) (agrees : Bool) (w : SlotWrite) :
    (t.program agrees w).wf = true := by
  obtain ⟨hunits, htenancies, hcredentials, hprofiles, hportals, hcars⟩ := Slots.wf_iff.mp h
  rw [Slots.wf_iff]
  cases w with
  | unit n r => exact ⟨Table.put_wf _ _ hunits, htenancies, hcredentials, hprofiles, hportals, hcars⟩
  | tenancy n r => exact ⟨hunits, Table.set_wf _ _ htenancies, hcredentials, hprofiles, hportals, hcars⟩
  | credential k r => exact ⟨hunits, htenancies, Table.set_wf _ _ hcredentials, hprofiles, hportals, hcars⟩
  | profile n r => exact ⟨hunits, htenancies, hcredentials, Table.put_wf _ _ hprofiles, hportals, hcars⟩
  | portal p r => exact ⟨hunits, htenancies, hcredentials, hprofiles, Table.put_wf _ _ hportals, hcars⟩
  | car c r => exact ⟨hunits, htenancies, hcredentials, hprofiles, hportals, Table.put_wf _ _ hcars⟩
  | holidays days | site limit => exact ⟨hunits, htenancies, hcredentials, hprofiles, hportals, hcars⟩

theorem Slots.interrupt_wf {t : Slots} (h : t.wf = true) (x : Config.InterruptedSlot) (w : SlotWrite) :
    (t.interrupt x w).wf = true := by
  cases x with
  | invalid => exact Slots.program_wf h false w
  | old => exact h
  | new => exact Slots.program_wf h true w

theorem Mirror.dropSlot_wf {m : Mirror} (h : m.credentials.wf = true) (k : Nat) : (m.dropSlot k).wf = true :=
  Table.filter_wf _ h

theorem Mirror.take_wf {m : Mirror} (h : m.wf = true) (w : SlotWrite) : (m.take w).wf = true := by
  obtain ⟨hunits, htenancies, hcredentials, hprofiles⟩ := Mirror.wf_iff.mp h
  rw [Mirror.wf_iff]
  cases w with
  | unit n r => exact ⟨Table.put_wf _ _ hunits, htenancies, hcredentials, hprofiles⟩
  | tenancy n r => exact ⟨hunits, Table.set_wf _ _ htenancies, hcredentials, hprofiles⟩
  | credential k r =>
    cases r with
    | none => exact ⟨hunits, htenancies, Mirror.dropSlot_wf hcredentials k, hprofiles⟩
    | some r => exact ⟨hunits, htenancies, Table.put_wf _ _ (Mirror.dropSlot_wf hcredentials k), hprofiles⟩
  | profile n r => exact ⟨hunits, htenancies, hcredentials, Table.put_wf _ _ hprofiles⟩
  | holidays days | portal p r | car c r | site limit => exact ⟨hunits, htenancies, hcredentials, hprofiles⟩

/-- A change of the records under their numbers keeps a list rising. -/
theorem risingFrom_map {α β : Type} {f : Nat × α → Nat × β} (hf : ∀ e, (f e).1 = e.1) (b : Option Nat)
    (l : List (Nat × α)) : risingFrom b (l.map f) = risingFrom b l := by
  induction l generalizing b with
  | nil => cases b <;> rfl
  | cons e l ih => cases b <;> simp [risingFrom, hf, ih]

theorem reconcileUnit_number (x : Table TenancyRec) (e : Nat × UnitRec) : (reconcileUnit x e).1 = e.1 := by
  unfold reconcileUnit
  split <;> rfl

theorem reconcileTenancy_number (x : Table UnitRec) (e : Nat × TenancyRec) : (reconcileTenancy x e).1 = e.1 := by
  unfold reconcileTenancy
  split <;> rfl

theorem Mirror.reconcile_wf {m : Mirror} (h : m.wf = true) : m.reconcile.wf = true := by
  obtain ⟨hunits, htenancies, hcredentials, hprofiles⟩ := Mirror.wf_iff.mp h
  refine Mirror.wf_iff.mpr ⟨?_, ?_, hcredentials, hprofiles⟩
  · exact (risingFrom_map (reconcileUnit_number _) none _).trans hunits
  · exact (risingFrom_map (reconcileTenancy_number _) none _).trans htenancies

theorem reloadCredential_wf {m : Mirror} (h : m.wf = true) (slots : Slots) (k : Nat) :
    (reloadCredential slots m k).wf = true := by
  obtain ⟨hunits, htenancies, hcredentials, hprofiles⟩ := Mirror.wf_iff.mp h
  have hdropped := Mirror.dropSlot_wf hcredentials k
  have hput := fun n x => Table.put_wf (t := m.dropSlot k) n x hdropped
  unfold reloadCredential
  dsimp only
  repeat' split
  all_goals simp [Mirror.wf_iff, hunits, htenancies, hprofiles, hdropped, hput]

theorem reloadSlot_wf {m : Mirror} (h : m.wf = true) (slots : Slots) (w : SlotWrite) :
    (reloadSlot slots m w).wf = true := by
  obtain ⟨hunits, htenancies, hcredentials, hprofiles⟩ := Mirror.wf_iff.mp h
  cases w with
  | credential k r => exact reloadCredential_wf h slots k
  | unit n r => exact Mirror.wf_iff.mpr ⟨Table.set_wf _ _ hunits, htenancies, hcredentials, hprofiles⟩
  | tenancy n r => exact Mirror.wf_iff.mpr ⟨hunits, Table.set_wf _ _ htenancies, hcredentials, hprofiles⟩
  | profile n r => exact Mirror.wf_iff.mpr ⟨hunits, htenancies, hcredentials, Table.set_wf _ _ hprofiles⟩
  | holidays days | portal p r | car c r | site limit =>
    exact Mirror.wf_iff.mpr ⟨hunits, htenancies, hcredentials, hprofiles⟩

/-- A fold of changes of the mirror each of which keeps its tables keeps them. -/
theorem foldl_mirror_wf {α : Type} {f : Mirror → α → Mirror} (hf : ∀ m a, m.wf = true → (f m a).wf = true) (l : List α)
    {m : Mirror} (h : m.wf = true) : (l.foldl f m).wf = true := by
  induction l generalizing m with
  | nil => exact h
  | cons a l ih => exact ih (hf m a h)

/-- The VALID records of a group of slots stand in a canonical table. -/
theorem loadTable_wf {α : Type} {t : Table (Slot α)} (h : t.wf = true) : (loadTable t).wf = true := by
  have hfrom : ∀ (l : List (Nat × Slot α)) (b : Nat), risingFrom (some b) l = true →
      risingFrom (some b) (l.filterMap (fun e => e.2.record?.map (fun r => (e.1, r)))) = true := by
    intro l
    induction l with
    | nil => exact fun _ _ => rfl
    | cons e l ih =>
      intro b hl
      simp only [risingFrom, Bool.and_eq_true, decide_eq_true_eq] at hl
      obtain ⟨hb, hl⟩ := hl
      cases he : e.2.record? with
      | none => simpa [List.filterMap_cons, he] using risingFrom_lower hb.le (ih _ hl)
      | some r => simpa [List.filterMap_cons, he, risingFrom, hb] using ih _ hl
  obtain ⟨l⟩ := t
  cases l with
  | nil => rfl
  | cons e l =>
    have hl : risingFrom (some e.1) l = true := h
    cases he : e.2.record? with
    | none => simpa [loadTable, Table.wf, List.filterMap_cons, he] using risingFrom_none (hfrom l _ hl)
    | some r => simpa [loadTable, Table.wf, List.filterMap_cons, he, risingFrom] using hfrom l _ hl

/-- The credential table and the duplicates that restore notes are canonical, whatever the slots hold. -/
theorem loadCredentials_wf (t : Table (Slot CredSlot)) :
    (loadCredentials t).table.wf = true ∧ (loadCredentials t).duplicates.wf = true := by
  have hadd : ∀ (l : List (Nat × CredSlot)) (x : CredLoad), x.table.wf = true ∧ x.duplicates.wf = true →
      (l.foldl CredLoad.add x).table.wf = true ∧ (l.foldl CredLoad.add x).duplicates.wf = true := by
    intro l
    induction l with
    | nil => exact fun _ h => h
    | cons e l ih =>
      rintro x ⟨htable, hduplicates⟩
      refine ih _ ?_
      unfold CredLoad.add
      split
      case isTrue => exact ⟨htable, Table.put_wf _ _ hduplicates⟩
      case isFalse => exact ⟨Table.put_wf _ _ htable, hduplicates⟩
  exact hadd _ _ ⟨rfl, rfl⟩

theorem Slots.load_wf {t : Slots} (h : t.wf = true) : t.load.wf = true := by
  obtain ⟨hunits, htenancies, _, hprofiles, _, _⟩ := Slots.wf_iff.mp h
  exact Mirror.wf_iff.mpr ⟨loadTable_wf hunits, loadTable_wf htenancies, (loadCredentials_wf _).1, loadTable_wf hprofiles⟩

/-! ## The Store's own states (R2, R10, R11) -/

theorem Store.begin_phase (t : Store) (k : Task) (ws : List SlotWrite) : (t.begin k ws).phase = .programming := rfl

theorem Store.finish_frame (t : Store) :
    t.finish.phase ≠ .restoring ∧ t.finish.slots = t.slots ∧ t.finish.mirror = t.mirror
      ∧ t.finish.duplicates = t.duplicates ∧ t.finish.marks = t.marks := by
  unfold Store.finish
  split <;> simp [Store.begin]

theorem Store.takeRequest_frame (t : Store) (ws : List SlotWrite) :
    ((t.takeRequest ws).phase = .restoring → t.phase = .restoring) ∧ (t.takeRequest ws).slots = t.slots
      ∧ (t.takeRequest ws).mirror = t.mirror ∧ (t.takeRequest ws).duplicates = t.duplicates
      ∧ (t.takeRequest ws).marks = t.marks := by
  unfold Store.takeRequest
  split <;> simp [Store.begin]

/-- The Store changes in none of its tables. -/
theorem Quiet.storeDetail {s : State} {x : Store} (hphase : x.phase = .restoring → s.store.phase = .restoring)
    (hslots : x.slots = s.store.slots) (hmirror : x.mirror = s.store.mirror)
    (hduplicates : x.duplicates = s.store.duplicates) : Quiet s { s with store := x } :=
  Quiet.storeState hphase (by rw [hmirror]) (by simp only [TablesRise, hslots, hmirror, hduplicates, imp_self])

theorem Quiet.unmark (s : State) (id : Nat) : Quiet s { s with store := s.store.unmark id } :=
  Quiet.storeDetail (fun h => h) rfl rfl rfl

theorem Quiet.finish (s : State) : Quiet s { s with store := s.store.finish } := by
  obtain ⟨hphase, hslots, hmirror, hduplicates, _⟩ := s.store.finish_frame
  exact Quiet.storeDetail (fun h => absurd h hphase) hslots hmirror hduplicates

theorem Quiet.programSlot (s : State) (agrees : Bool) (w : SlotWrite) :
    Quiet s { s with store := s.store.program agrees w } := by
  refine Quiet.storeState id rfl ?_
  rintro ⟨hslots, hmirror, hduplicates⟩
  refine ⟨Slots.program_wf hslots agrees w, hmirror, ?_⟩
  cases w with
  | credential k r => exact Table.erase_wf k hduplicates
  | _ => exact hduplicates

theorem Quiet.officeDetail {s : State} {x : PortState} (hflags : x.flags = s.office.flags) (hmask : x.mask = s.office.mask) :
    Quiet s { s with office := x } :=
  Quiet.portDetail (p := .office) (f := fun _ => x) hflags hmask

theorem Quiet.releaseOffice (s : State) (r : ResultCode) : Quiet s (s.releaseOffice r) := Quiet.officeDetail rfl rfl

/-- The mirror is replaced by one whose tables are canonical too. -/
theorem Keeps.modMirror {s : State} {f : Mirror → Mirror}
    (h : s.store.mirror.wf = true → s.store.slots.wf = true → (f s.store.mirror).wf = true) : Keeps s (s.modMirror f) :=
  Keeps.storeState id (fun ⟨hslots, hmirror, hduplicates⟩ => ⟨hslots, h hmirror hslots, hduplicates⟩)

/-! ## Hand-overs (R17, R20, R21, R24) -/

theorem Quiet.handOff (s : State) (id : Nat) : Quiet s (s.handOff id) :=
  ((((Quiet.dropFromRoster s id).trans (Quiet.dropMoves _ id)).trans
    (Quiet.foldl (fun t c => Quiet.removePassenger t c id) allCars _)).trans (Quiet.cancelReferrals _ id)).trans
    (Quiet.unmark _ id)

theorem Quiet.takeUpCredential (s : State) (before : Mirror) (r : CredSlot) : Quiet s (s.takeUpCredential before r) := by
  unfold State.takeUpCredential
  dsimp only
  refine (Quiet.unmark s r.id).trans ?_
  split
  case h_1 => exact Quiet.ite (fun _ => Quiet.refl _) (fun _ => Quiet.modEntry _ _ (fun _ => rfl))
  case h_2 => exact Quiet.refl _

theorem Quiet.takeUpWrite (before : Mirror) (s : State) (w : SlotWrite) : Quiet s (takeUpWrite before s w) := by
  cases w with
  | credential k r =>
    cases r with
    | none => exact Quiet.refl s
    | some r => exact Quiet.takeUpCredential s before r
  | portal p r => exact Quiet.takeUpPortal s p _
  | car c r => exact Quiet.takeUpCar s c r
  | unit | tenancy | profile | holidays | site => exact Quiet.refl s

/-- A portal takes up its record where it has changed (R24, log entry 25). -/
theorem Quiet.takeUpIfChanged (x y : Mirror) (s : State) (p : Fin 16) :
    Quiet s (if x.portals[p] = y.portals[p] then s else s.takeUpPortal p x.portals[p]) :=
  Quiet.ite (fun _ => Quiet.refl s) (fun _ => Quiet.takeUpPortal s p _)

theorem Quiet.takeUpCars (s : State) : Quiet s (allCars.foldl (fun t c => t.modCar c (·.takeUp (t.carRec c))) s) :=
  Quiet.foldl (fun t c => Quiet.takeUpCar t c (t.carRec c)) allCars s

theorem Quiet.takeUpChanged (s : State) (before : Mirror) : Quiet s (s.takeUpChanged before) := by
  unfold State.takeUpChanged
  dsimp only
  exact (Quiet.foldl (Quiet.takeUpIfChanged before s.store.mirror) allPortals s).trans (Quiet.takeUpCars _)

/-! ## Requests that complete or fail (R11, R24) -/

/-- After a fold of quiet steps an egress portal under fire is FREE, if it was before or some step frees it. -/
theorem foldl_frees {α : Type} {f : State → α → State} (hf : ∀ t a, Quiet t (f t a)) {p : Fin 16} (l : List α) {s : State}
    (h : s.egressUnderFire p = true → s.portals[p].mode = .free
      ∨ ∃ a ∈ l, ∀ t : State, t.egressUnderFire p = true → (f t a).portals[p].mode = .free)
    (hunder : s.egressUnderFire p = true) : (l.foldl f s).portals[p].mode = .free := by
  induction l generalizing s with
  | nil =>
    rcases h hunder with hfree | ⟨a, ha, _⟩
    · exact hfree
    · cases ha
  | cons a l ih =>
    refine ih (fun _ => ?_) (by rwa [(hf s a).egressUnderFire])
    rcases h hunder with hfree | ⟨b, hb, hfrees⟩
    · exact .inl ((hf s a).freed p hunder hfree)
    · rcases List.mem_cons.mp hb with rfl | hb
      · exact .inl (hfrees s hunder)
      · exact .inr ⟨b, hb, hfrees⟩

/-- A portal that takes up a record is FREE if it is then an egress portal under fire. -/
theorem State.takeUpPortal_freed {s : State} {p : Fin 16} (old : PortalRec) (h : s.egressUnderFire p = true) :
    (s.takeUpPortal p old).portals[p].mode = .free := by
  refine State.recomputeMode_freed ?_
  rw [(((Quiet.takeUpSensor s p old).trans (Quiet.takeUpBeam _ p old)).trans
    (Quiet.judgeSchedule _ p)).egressUnderFire, h]

/-- A slot write that is not the portal's leaves the portal's record in the mirror. -/
theorem foldl_take_portals {p : Fin 16} (ws : List SlotWrite) (m : Mirror) (h : ∀ r, SlotWrite.portal p r ∉ ws) :
    (ws.foldl Mirror.take m).portals[p] = m.portals[p] := by
  induction ws generalizing m with
  | nil => rfl
  | cons w ws ih =>
    rw [List.foldl_cons, ih _ (fun r hr => h r (List.mem_cons_of_mem _ hr))]
    cases w with
    | portal q r =>
      have hq : (q : Nat) ≠ p := fun e => h r (by rw [Fin.ext e]; exact List.mem_cons_self)
      simp [Mirror.take, Vector.getElem_set_ne, hq]
    | credential k r => cases r <;> rfl
    | _ => rfl

theorem Quiet.completeRequest_tail (s : State) (ids : List Nat) (r : ResultCode) :
    Quiet s (State.releaseOffice { ids.foldl State.handOff s with store := (ids.foldl State.handOff s).store.finish } r) :=
  ((Quiet.foldl Quiet.handOff ids s).trans (Quiet.finish _)).trans (Quiet.releaseOffice _ r)

theorem Safe.completeRequest (s : State) (ws : List SlotWrite) : Safe s (s.completeRequest ws) := by
  let before := s.store.mirror
  let t := s.modMirror (fun m => ws.foldl Mirror.take m)
  have hmirror : Keeps s t := Keeps.modMirror (fun h _ => foldl_mirror_wf (fun m w hm => Mirror.take_wf hm w) ws h)
  have hup : Quiet t (ws.foldl (takeUpWrite before) t) := Quiet.foldl (Quiet.takeUpWrite before) ws t
  have htail := Quiet.completeRequest_tail (ws.foldl (takeUpWrite before) t) (goneIds before t.store.mirror) .ok
  refine ⟨hmirror.trans (hup.trans htail).toKeeps, fun hrun hfrees => ?_⟩
  refine (htail.safe).frees (hup.toKeeps.running (hmirror.running hrun)) (fun p hunder => ?_)
  rw [hup.egressUnderFire] at hunder
  refine foldl_frees (Quiet.takeUpWrite before) ws (fun _ => ?_) hunder
  by_cases hw : ∃ r, SlotWrite.portal p r ∈ ws
  case pos =>
    obtain ⟨r, hr⟩ := hw
    exact .inr ⟨_, hr, fun u hu => State.takeUpPortal_freed _ hu⟩
  case neg =>
    have hrec : t.portalRec p = s.portalRec p := foldl_take_portals ws _ (fun r hr => hw ⟨r, hr⟩)
    refine .inl (hfrees p ?_)
    rw [State.egressUnderFire, ← hrec]
    exact hunder

theorem Quiet.noteFault (s : State) (id : Option Nat) (n : Nat) : Quiet s (s.noteFault id n) :=
  (Quiet.append s _).trans (Quiet.raise _ (by decide))

/-- Portals and cars that take up a rebuilt mirror leave the egress portals free under fire. -/
theorem State.takeUpChanged_frees {s : State} {before : Mirror}
    (h : ∀ p : Fin 16, before.portals[p] = s.store.mirror.portals[p] → s.egressUnderFire p = true →
      s.portals[p].mode = .free) : FireFrees (s.takeUpChanged before) := by
  intro p hunder
  rw [(Quiet.takeUpChanged s before).egressUnderFire] at hunder
  have hportals := Quiet.foldl (Quiet.takeUpIfChanged before s.store.mirror) allPortals s
  unfold State.takeUpChanged
  dsimp only
  refine (Quiet.takeUpCars _).freed p (by rwa [hportals.egressUnderFire])
    (foldl_frees (Quiet.takeUpIfChanged before s.store.mirror) allPortals (fun _ => ?_) hunder)
  by_cases hsame : before.portals[p] = s.store.mirror.portals[p]
  case pos => exact .inl (h p hsame hunder)
  case neg =>
    refine .inr ⟨p, mem_allPortals p, fun u hu => ?_⟩
    rw [if_neg hsame]
    exact State.takeUpPortal_freed _ hu

theorem Safe.faultRequest (s : State) (j : Job) : Safe s (s.faultRequest j) := by
  have hmirror : Keeps s (s.modMirror (fun _ => s.rebuilt (j.writes.take (j.verified + 1)))) :=
    Keeps.modMirror (fun h _ =>
      Mirror.reconcile_wf (foldl_mirror_wf (fun m w hm => reloadSlot_wf hm s.store.slots w) _ h))
  unfold State.faultRequest
  dsimp only
  generalize ht : s.modMirror (fun _ => s.rebuilt (j.writes.take (j.verified + 1))) = t at hmirror ⊢
  have hup : Quiet t (t.takeUpChanged s.store.mirror) := Quiet.takeUpChanged t s.store.mirror
  have htail := (Quiet.completeRequest_tail (t.takeUpChanged s.store.mirror)
    (goneIds s.store.mirror t.store.mirror) .storeFault).trans (Quiet.noteFault _ none j.verified)
  refine ⟨hmirror.trans (hup.trans htail).toKeeps, fun hrun hfrees => ?_⟩
  refine htail.safe.frees (hup.toKeeps.running (hmirror.running hrun)) (State.takeUpChanged_frees fun p hsame hunder => ?_)
  subst ht
  refine hfrees p ?_
  have hrec : s.portalRec p = (s.modMirror (fun _ => s.rebuilt (j.writes.take (j.verified + 1)))).portalRec p := hsame
  rw [State.egressUnderFire, hrec]
  exact hunder

theorem Quiet.endWriteBack (s : State) (id : Nat) : Quiet s (s.endWriteBack id) :=
  (Quiet.unmark s id).trans (Quiet.finish _)

/-- The programming in progress is noted. -/
theorem Quiet.setJob (s : State) (j : Job) : Quiet s { s with store := { s.store with job := some j } } :=
  Quiet.storeDetail id rfl rfl rfl

theorem Safe.slotAgrees (s : State) (j : Job) : Safe s (s.slotAgrees j) := by
  unfold State.slotAgrees
  split
  case isTrue => exact (Quiet.setJob s _).safe
  case isFalse =>
    split
    case h_1 => exact Safe.completeRequest s _
    case h_2 id _ => exact (Quiet.endWriteBack s id).safe

theorem Safe.slotDisagrees (s : State) (j : Job) : Safe s (s.slotDisagrees j) := by
  unfold State.slotDisagrees
  split
  case isTrue => exact (Quiet.setJob s _).safe
  case isFalse =>
    split
    case h_1 => exact Safe.faultRequest s j
    case h_2 id _ => exact ((Quiet.endWriteBack s id).trans (Quiet.noteFault _ _ _)).safe

theorem Safe.slotVerified (s : State) (agrees : Bool) : Safe s (s.slotVerified agrees) := by
  unfold State.slotVerified
  split
  case h_1 => exact Safe.refl s
  case h_2 j _ =>
    split
    case h_1 => exact Safe.refl s
    case h_2 w _ =>
      refine (Quiet.programSlot s agrees w).safe.trans ?_
      split
      case isTrue => exact Safe.slotAgrees _ j
      case isFalse => exact Safe.slotDisagrees _ j

theorem Quiet.writeBack (s : State) : Quiet s s.writeBack := by
  unfold State.writeBack
  split
  case isFalse => exact Quiet.refl s
  case isTrue =>
    split
    case h_1 => exact Quiet.refl s
    case h_2 id _ _ =>
      split
      case h_1 => exact Quiet.unmark s id
      case h_2 => exact Quiet.storeDetail (fun h => by simp [Store.begin] at h) rfl rfl rfl

theorem Quiet.takePut (check : State → Except ResultCode (List SlotWrite)) (s : State) : Quiet s (takePut check s) := by
  have hend := Quiet.endFrame s .office
  unfold Machine.takePut
  dsimp only
  refine Quiet.ite (fun _ => ?_) (fun _ => Quiet.refl s)
  refine Quiet.ite (fun _ => hend.trans (Quiet.holdReply _ _ _)) (fun _ => ?_)
  split
  case h_1 => exact hend.trans (Quiet.holdReply _ _ _)
  case h_2 ws _ =>
    obtain ⟨hphase, hslots, hmirror, hduplicates, _⟩ := (s.endFrame .office).store.takeRequest_frame ws
    exact hend.trans ((Quiet.storeDetail hphase hslots hmirror hduplicates).trans (Quiet.officeDetail rfl rfl))

end Sys2Proof.Machine

/-! PROOFS. KeptCommands: every command keeps the laws, and every command that neither stops nor restores the part leaves
the egress portals free under fire; with these the laws that every step keeps (Section "Laws that every step keeps" of
the obligations). -/

namespace Sys2Proof.Machine

/-! ## Fire and tamper (Chapter 9) -/

theorem Quiet.noteFireOn (s : State) : Quiet s s.noteFireOn :=
  (Quiet.note s _ _ _).trans (Quiet.raiseBoth _ (by decide) (by decide))

theorem State.mem_egressPortals {s : State} {p : Fin 16} : p ∈ s.egressPortals ↔ (s.portalRec p).egress = true := by
  simp [State.egressPortals, mem_allPortals]

/-- The onset of a running part: FIRE_ON, and then the recomputation of the egress portals (R151). -/
theorem State.fireStarts_running {s : State} (hrun : s.running = true) :
    s.fireStarts = s.egressPortals.foldl State.recomputeMode (s.setFire true).noteFireOn := by
  simp [State.fireStarts, hrun]

theorem State.fireStarts_stopped {s : State} (hstop : s.running = false) : s.fireStarts = s.setFire true := by
  simp [State.fireStarts, hstop]

theorem Safe.fireStarts (s : State) : Safe s s.fireStarts := by
  have hset : Keeps s (s.setFire true) := Keeps.fireUnit s _
  cases hrun : s.running with
  | false =>
    rw [State.fireStarts_stopped hrun]
    exact ⟨hset, fun h => absurd h (by simp [hrun])⟩
  | true =>
    rw [State.fireStarts_running hrun]
    have hnote := Quiet.noteFireOn (s.setFire true)
    have hfold := Quiet.foldl Quiet.recomputeMode s.egressPortals (s.setFire true).noteFireOn
    refine ⟨hset.trans (hnote.trans hfold).toKeeps, fun _ _ p hunder => ?_⟩
    rw [hfold.egressUnderFire] at hunder
    refine foldl_frees Quiet.recomputeMode s.egressPortals (fun h => .inr ⟨p, ?_, fun t => State.recomputeMode_freed⟩) hunder
    rw [hnote.egressUnderFire, State.egressUnderFire, Bool.and_eq_true] at h
    exact State.mem_egressPortals.mpr h.2

/-- The clear of a running part: every entry is marked, FIRE_OFF, and every portal is handed a recomputation (R153). -/
theorem State.fireEnds_running {s : State} (hrun : s.running = true) :
    s.fireEnds = allPortals.foldl awaitRecompute
      (((s.setFire false).markAll.note .fireOff none (some s.roster.length)).raiseBoth .fire) := by
  simp [State.fireEnds, hrun]

theorem State.fireEnds_stopped {s : State} (hstop : s.running = false) : s.fireEnds = s.setFire false := by
  simp [State.fireEnds, hstop]

theorem Safe.fireEnds (s : State) : Safe s s.fireEnds := by
  have hset : Keeps s (s.setFire false) := Keeps.fireUnit s _
  have hclear : ∀ t, Quiet (s.setFire false) t → Safe s t := by
    intro t ht
    refine ⟨hset.trans ht.toKeeps, fun _ _ p hunder => ?_⟩
    rw [ht.egressUnderFire] at hunder
    simp [State.egressUnderFire, State.setFire] at hunder
  refine hclear _ ?_
  cases hrun : s.running with
  | false =>
    rw [State.fireEnds_stopped hrun]
    exact Quiet.refl _
  | true =>
    rw [State.fireEnds_running hrun]
    exact (((Quiet.markAll _).trans (Quiet.note _ _ _ _)).trans (Quiet.raiseBoth _ (by decide) (by decide))).trans
      (Quiet.foldl Quiet.awaitRecompute allPortals _)

theorem Quiet.startFireFilter (s : State) : Quiet s s.startFireFilter := Quiet.fireUnit rfl

theorem Quiet.fireIn (s : State) (high : Bool) : Quiet s (s.fireIn high) :=
  Quiet.ite (fun _ => Quiet.refl s) (fun _ =>
    (Quiet.pins s _).trans (Quiet.ite (fun _ => Quiet.startFireFilter _) (fun _ => Quiet.refl _)))

theorem Quiet.tamperIn (s : State) (asserted : Bool) : Quiet s (s.tamperIn asserted) :=
  Quiet.ite (fun _ => Quiet.refl s) (fun _ =>
    (Quiet.pins s _).trans (Quiet.ite (fun _ => Quiet.fireUnit rfl) (fun _ => Quiet.refl _)))

theorem Quiet.setLatch (s : State) : Quiet s s.setLatch :=
  Quiet.trans (Quiet.trans (Quiet.fireUnit (x := { s.fire with latch := true, tamperFilter := none }) rfl)
    (Quiet.note _ .tamper none none)) (Quiet.raiseBoth (f := .tamper) _ (by decide) (by decide))

theorem Quiet.clearLatch (s : State) : Quiet s s.clearLatch :=
  Quiet.ite (fun _ => Quiet.refl s) (fun _ =>
    Quiet.ite (fun _ => Quiet.raise s (by decide)) (fun _ => Quiet.fireUnit rfl))

/-! ## The Decision Engine (Chapter 3) -/

theorem Quiet.noteDecision (s : State) (reader id : Nat) (d : Decision) (r : Reason) (n ticket : Option Nat) :
    Quiet s (s.noteDecision reader id d r n ticket) := Quiet.append s _

theorem Quiet.concludeEntry (s : State) (p : Fin 16) (id : Nat) (m : Move) (corrected : Bool) :
    Quiet s (s.concludeEntry p id m corrected).1 := by
  have hgrant : ∀ r, Quiet s (s.answerGrant p (entryReader p) id r m).1 :=
    fun r => (Quiet.noteDecision s _ _ _ _ _ _).trans (Quiet.grantMove _ p m)
  unfold State.concludeEntry
  split
  case h_1 => exact hgrant _
  case h_2 =>
    split
    case isTrue hplace =>
      refine (Quiet.noteDecision s _ _ _ _ _ _).trans (Quiet.refer ?_ _ _ _ _)
      simpa [State.queueHasPlace, State.noteDecision] using hplace
    case isFalse =>
      split
      case h_1 => exact hgrant _
      case h_2 => exact Quiet.noteDecision s _ _ _ _ _ _

theorem Quiet.presentEntry (s : State) (p : Fin 16) (id : Nat) : Quiet s (s.presentEntry p id).1 := by
  unfold State.presentEntry
  split
  case h_1 | h_2 => exact Quiet.noteDecision s _ _ _ _ _ _
  case h_3 => exact (Quiet.noteDecision s _ _ _ _ _ _).trans (Quiet.regrant _ p)
  case h_4 => exact Quiet.concludeEntry s p id _ _

theorem Quiet.presentExit (s : State) (p : Fin 16) (id : Nat) : Quiet s (s.presentExit p id).1 := by
  unfold State.presentExit
  split
  case h_1 | h_2 => exact Quiet.noteDecision s _ _ _ _ _ _
  case h_3 => exact (Quiet.noteDecision s _ _ _ _ _ _).trans (Quiet.regrant _ p)
  case h_4 => exact (Quiet.noteDecision s _ _ _ _ _ _).trans (Quiet.grantMove _ p _)

theorem Quiet.ensureEntry (s : State) (c : Fin 4) (id : Nat) : Quiet s (s.ensureEntry c id) :=
  Quiet.ite (fun h => Quiet.createEntry (Option.isNone_iff_eq_none.mp h) _) (fun _ => Quiet.refl s)

theorem Quiet.concludeRide (s : State) (c : Fin 4) (id : Nat) (landings : Set16) (corrected : Bool) :
    Quiet s (s.concludeRide c id landings corrected).1 := by
  have hentry := Quiet.ensureEntry s c id
  unfold State.concludeRide
  dsimp only
  split
  case isTrue => exact hentry.trans (Quiet.noteDecision _ _ _ _ _ _ _)
  case isFalse => exact (hentry.trans (Quiet.noteDecision _ _ _ _ _ _ _)).trans (Quiet.grantRide _ c id landings)

theorem Quiet.presentCar (s : State) (c : Fin 4) (id : Nat) : Quiet s (s.presentCar c id).1 := by
  unfold State.presentCar
  split
  case h_1 => exact Quiet.noteDecision s _ _ _ _ _ _
  case h_2 => exact Quiet.concludeRide s c id _ _

theorem Quiet.present (reader id : Nat) (s : State) : Quiet s (present reader id s).1 := by
  unfold Machine.present
  split
  case isTrue => exact Quiet.refl s
  case isFalse =>
    split
    case h_1 p _ =>
      split
      case isTrue => exact Quiet.presentEntry s p id
      case isFalse => exact Quiet.presentExit s p id
    case h_2 =>
      split
      case h_1 c _ => exact Quiet.presentCar s c id
      case h_2 => exact Quiet.refl s

theorem Quiet.recheck (s : State) (e : Referral) : Quiet s (s.recheck e).1 := by
  unfold State.recheck
  split
  case h_1 => exact Quiet.refl s
  case h_2 p _ =>
    split
    case h_1 | h_2 => exact Quiet.refl s
    case h_3 => exact Quiet.regrant s p
    case h_4 m _ _ => exact Quiet.grantMove s p m

theorem Quiet.recheckAndResolve (s : State) (e : Referral) : Quiet s (s.recheckAndResolve e).1 :=
  (Quiet.recheck s e).trans (Quiet.resolve _ e _)

theorem Quiet.reachDeadline (s : State) (e : Referral) : Quiet s (s.reachDeadline e) := by
  unfold State.reachDeadline
  split
  case h_1 => exact Quiet.recheckAndResolve s e
  case h_2 | h_3 => exact Quiet.resolve s e _

/-! ## Requests (Chapter 11) -/

theorem Quiet.request {owner : State → State × Reply} (h : ∀ t, Quiet t (owner t).1) (p : Port) (s : State) :
    Quiet s (request p s owner) := by
  cases hack : s.acknowledges p with
  | false =>
    rw [request_unheard owner hack]
    exact Quiet.refl s
  | true =>
    rw [request_performed owner hack]
    exact ((Quiet.endFrame s p).trans (h _)).trans (Quiet.holdReply _ p _)

theorem Quiet.withdraw (ticket : Nat) (s : State) : Quiet s (withdraw ticket s).1 := by
  unfold Machine.withdraw
  dsimp only
  split
  case isTrue => exact Quiet.refl s
  case isFalse =>
    split
    case h_1 => exact Quiet.refl s
    case h_2 =>
      split
      case h_1 => exact (Quiet.removeReferral s ticket).trans (Quiet.append _ _)
      case h_2 => exact Quiet.removeReferral s ticket

theorem Quiet.takeIfResolved (s : State) (e : Referral) : Quiet s (s.takeIfResolved e).1 := by
  unfold State.takeIfResolved
  split
  case h_1 => exact Quiet.refl s
  case h_2 => exact Quiet.removeReferral s e.ticket

theorem Quiet.takeOutcome (ticket : Nat) (s : State) : Quiet s (takeOutcome ticket s).1 := by
  unfold Machine.takeOutcome
  split
  all_goals
    split
    case h_1 => exact Quiet.refl s
    case h_2 => exact Quiet.takeIfResolved s _

theorem Quiet.carArrival (car landing : Nat) (s : State) : Quiet s (carArrival car landing s).1 := by
  unfold Machine.carArrival
  split
  case h_1 => exact Quiet.refl s
  case h_2 =>
    dsimp only
    split
    case isTrue => exact Quiet.arrive s _ landing
    case isFalse => exact Quiet.refl s

theorem Quiet.setClock (day minute second : Nat) (s : State) : Quiet s (setClock day minute second s).1 := by
  unfold Machine.setClock
  dsimp only
  split
  case isTrue => exact (Quiet.clock s _).trans (Quiet.note _ _ _ _)
  case isFalse => exact Quiet.refl s

theorem Quiet.setHold (s : State) (p : Fin 16) (x : Option Mode) :
    Quiet s ((s.modPortal p (fun q => { q with hold := x })).recomputeMode p) :=
  Quiet.trans (Quiet.portalDetail rfl rfl id) (Quiet.recomputeMode _ p)

theorem Quiet.holdMode (portal mode : Nat) (s : State) : Quiet s (holdMode portal mode s).1 := by
  unfold Machine.holdMode
  split
  case h_1 p m _ _ => exact Quiet.setHold s p (some m)
  case h_2 => exact Quiet.refl s

theorem Quiet.releaseHold (portal : Nat) (s : State) : Quiet s (releaseHold portal s).1 := by
  unfold Machine.releaseHold
  split
  case h_1 => exact Quiet.refl s
  case h_2 p _ =>
    dsimp only
    split
    case isTrue => exact Quiet.refl s
    case isFalse => exact Quiet.setHold s p none

theorem Quiet.answerReferral (ticket id verdict : Nat) (s : State) : Quiet s (answerReferral ticket id verdict s).1 := by
  unfold Machine.answerReferral
  split
  case isTrue => exact Quiet.refl s
  case isFalse =>
    split
    case h_1 => exact Quiet.refl s
    case h_2 e _ =>
      split
      case isTrue => exact Quiet.refl s
      case isFalse =>
        by_cases hverdict : verdict = 0
        case pos => simpa only [hverdict, if_true] using Quiet.recheckAndResolve s e
        case neg => simpa only [hverdict, if_false] using Quiet.resolve s e _

theorem Quiet.takeJournal (n : Nat) (s : State) : Quiet s (takeJournal n s).1 := by
  unfold Machine.takeJournal
  dsimp only
  split
  case isTrue => exact Quiet.journalList (fun h => by rw [List.length_drop]; omega)
  case isFalse => exact Quiet.refl s

theorem Quiet.dropRosterEntry (id : Nat) (s : State) : Quiet s (dropRosterEntry id s).1 := by
  unfold Machine.dropRosterEntry
  split
  case isTrue => exact Quiet.refl s
  case isFalse =>
    split
    case isTrue => exact Quiet.refl s
    case isFalse => exact (Quiet.removeEntry s id).trans (Quiet.noteDropped _ _ _)

theorem Quiet.clearRoster (s : State) : Quiet s (clearRoster s).1 :=
  Quiet.trans (Quiet.trans (Quiet.rosterList (l := []) (fun _ => List.nodup_nil)) (Quiet.foldl Quiet.clearCar allCars _))
    (Quiet.noteDropped _ _ _)

theorem Quiet.clearFlags (s : State) (p : Port) (flags : Set16) : Quiet s (s.clearFlags p flags) := by
  have hclear : Quiet s (s.modPort p (fun q => { q with flags := q.flags &&& ~~~flags })) :=
    Quiet.port flagsAllowed_and id
  cases p with
  | office => exact hclear.trans (Quiet.ite (fun _ => Quiet.clearLatch _) (fun _ => Quiet.refl _))
  | field => exact hclear

theorem Quiet.clearEvents (p : Port) (flags : Set16) (s : State) : Quiet s (clearEvents p flags s).1 := by
  unfold Machine.clearEvents
  split
  case isTrue => exact Quiet.clearFlags s p flags
  case isFalse => exact Quiet.refl s

theorem Quiet.setEventMask (p : Port) (mask : Set16) (s : State) : Quiet s (setEventMask p mask s).1 := by
  unfold Machine.setEventMask
  split
  case isTrue hallowed => exact Quiet.port (f := fun q => { q with mask := mask }) id (fun _ => hallowed)
  case isFalse => exact Quiet.refl s

/-- The reads leave the state to their own port. -/
theorem reads_leave (s : State) (p : Port) :
    (∀ n, (readRoster n s).1 = s) ∧ (∀ kind key, (readRecord p kind key s).1 = s) ∧ (∀ n, (readPortal n s).1 = s)
      ∧ (∀ n, (readCar n s).1 = s) ∧ (readStatus s).1 = s ∧ (readEvents p s).1 = s ∧ (listReferrals s).1 = s := by
  refine ⟨fun n => ?_, fun kind key => ?_, fun n => ?_, fun n => ?_, rfl, rfl, rfl⟩
  case refine_1 => unfold readRoster; split <;> rfl
  case refine_2 =>
    unfold readRecord
    repeat' split
    all_goals rfl
  case refine_3 => unfold readPortal; split <;> rfl
  case refine_4 => unfold readCar; split <;> rfl

theorem Quiet.of_eq {s t : State} (h : t = s) : Quiet s t := h ▸ Quiet.refl s

/-- The requests, whichever way they came, are quiet. -/
theorem performRequest_quiet (i : Instr) (s : State) : ∃ u, performRequest i s = done u ∧ Quiet s u := by
  have hreads := fun (p : Port) (t : State) => reads_leave t p
  cases i
  case present reader id => exact ⟨_, rfl, Quiet.request (Quiet.present reader id) _ s⟩
  case withdraw ticket => exact ⟨_, rfl, Quiet.request (Quiet.withdraw ticket) _ s⟩
  case takeOutcome ticket => exact ⟨_, rfl, Quiet.request (Quiet.takeOutcome ticket) _ s⟩
  case carArrival car landing => exact ⟨_, rfl, Quiet.request (Quiet.carArrival car landing) _ s⟩
  case putUnit | putTenancy | dropTenancy | putCredential | dropCredential | putProfile | putHolidays | putPortal | putCar
      | putSite =>
    exact ⟨_, rfl, Quiet.takePut _ s⟩
  case setClock day minute second => exact ⟨_, rfl, Quiet.request (Quiet.setClock day minute second) _ s⟩
  case holdMode portal mode => exact ⟨_, rfl, Quiet.request (Quiet.holdMode portal mode) _ s⟩
  case releaseHold portal => exact ⟨_, rfl, Quiet.request (Quiet.releaseHold portal) _ s⟩
  case answerReferral ticket id verdict => exact ⟨_, rfl, Quiet.request (Quiet.answerReferral ticket id verdict) _ s⟩
  case takeJournal n => exact ⟨_, rfl, Quiet.request (Quiet.takeJournal n) _ s⟩
  case dropRosterEntry id => exact ⟨_, rfl, Quiet.request (Quiet.dropRosterEntry id) _ s⟩
  case clearRoster => exact ⟨_, rfl, Quiet.request Quiet.clearRoster _ s⟩
  case clearEvents p flags => exact ⟨_, rfl, Quiet.request (Quiet.clearEvents p flags) _ s⟩
  case setEventMask p mask => exact ⟨_, rfl, Quiet.request (Quiet.setEventMask p mask) _ s⟩
  -- the reads
  case listReferrals => exact ⟨_, rfl, Quiet.request (fun t => Quiet.refl t) _ s⟩
  case readStatus => exact ⟨_, rfl, Quiet.request (fun t => Quiet.refl t) _ s⟩
  case readEvents => exact ⟨_, rfl, Quiet.request (fun t => Quiet.refl t) _ s⟩
  case readRoster n => exact ⟨_, rfl, Quiet.request (fun t => Quiet.of_eq ((hreads .office t).1 n)) _ s⟩
  case readRecord p kind key => exact ⟨_, rfl, Quiet.request (fun t => Quiet.of_eq ((hreads p t).2.1 kind key)) _ s⟩
  case readPortal p n => exact ⟨_, rfl, Quiet.request (fun t => Quiet.of_eq ((hreads p t).2.2.1 n)) _ s⟩
  case readCar p n => exact ⟨_, rfl, Quiet.request (fun t => Quiet.of_eq ((hreads p t).2.2.2.1 n)) _ s⟩
  -- no frame spells the others
  all_goals exact ⟨s, rfl, Quiet.refl s⟩

/-! ## Frames (Chapter 11) -/

theorem Quiet.refuseFrame (s : State) (p : Port) (r : ResultCode) : Quiet s (s.refuseFrame p r) :=
  ((Quiet.endFrame s p).trans (Quiet.holdReply _ p _)).trans
    (Quiet.ite (fun _ => Quiet.raise _ (by cases p <;> decide)) (fun _ => Quiet.refl _))

theorem execWriteFrame_quiet (p : Port) (bytes : List Byte) (s : State) :
    ∃ u, execWriteFrame p bytes s = done u ∧ Quiet s u := by
  unfold execWriteFrame
  split
  case isFalse => exact ⟨s, rfl, Quiet.refl s⟩
  case isTrue =>
    split
    case h_1 => exact ⟨_, rfl, Quiet.endFrame s p⟩
    case h_2 r _ => exact ⟨_, rfl, Quiet.refuseFrame s p r⟩
    case h_3 i _ => exact performRequest_quiet i s

theorem execReadFrame_quiet (p : Port) (count : Nat) (ended : Bool) (s : State) :
    ∃ u, execReadFrame p count ended s = done u ∧ Quiet s u := by
  have hsent : Quiet s (s.modPort p (fun q => { q with sent := q.clockOut count })) := Quiet.portDetail rfl rfl
  unfold execReadFrame
  split
  case isFalse => exact ⟨s, rfl, Quiet.refl s⟩
  case isTrue =>
    exact ⟨_, rfl, Quiet.ite (fun _ => hsent.trans (Quiet.endFrame _ p)) (fun _ => hsent.trans (Quiet.openFrame _ p _))⟩

theorem Quiet.startFrame (s : State) (p : Port) (address : Nat) : Quiet s (s.startFrame p address) :=
  Quiet.ite (fun _ => Quiet.ite (fun _ => Quiet.openFrame s p _) (fun _ => Quiet.refl s)) (fun _ => Quiet.endFrame s p)

theorem Quiet.endDiscarding (s : State) (p : Port) : Quiet s (s.endDiscarding p) :=
  Quiet.ite (fun _ => Quiet.portDetail rfl rfl) (fun _ => Quiet.refl s)

theorem Quiet.abandonFrame (s : State) (p : Port) : Quiet s (s.abandonFrame p) :=
  Quiet.trans (Quiet.portDetail rfl rfl) (Quiet.raise _ (by cases p <;> decide))

/-! ## Lines -/

theorem Quiet.whenRunning {s : State} {act : State → State} (h : Quiet s (act s)) : Quiet s (whenRunning s act) :=
  Quiet.ite (fun _ => h) (fun _ => Quiet.refl s)

theorem Quiet.leafIn (s : State) (p : Fin 16) (asserted : Bool) : Quiet s (s.leafIn p asserted) :=
  Quiet.ite (fun _ => Quiet.refl s) (fun _ => (Quiet.pins s _).trans (Quiet.whenRunning (Quiet.debounceLeaf _ p asserted)))

theorem Quiet.exitIn (s : State) (p : Fin 16) (asserted : Bool) : Quiet s (s.exitIn p asserted) :=
  Quiet.ite (fun _ => Quiet.refl s) (fun _ => (Quiet.pins s _).trans (Quiet.whenRunning (Quiet.debounceExit _ p asserted)))

/-- A beam line changes, and the filter with it. -/
theorem Quiet.beamIn (s : State) (p : Fin 16) (broken : Bool) (g : BeamFilter → BeamFilter) :
    Quiet s (s.beamIn p broken (fun q => { q with beam := g q.beam })) :=
  Quiet.ite (fun _ => Quiet.refl s)
    (fun _ => (Quiet.pins s _).trans (Quiet.whenRunning (Quiet.portalDetail rfl rfl id)))

/-! ## Ticks and timed events (R28, R29, R34) -/

theorem Quiet.settle {due : State → Bool} {act : State → State} {s : State} (h : Quiet s (act s)) :
    Quiet s (settle due act s) :=
  Quiet.ite (fun _ => h) (fun _ => Quiet.refl s)

theorem Safe.settle {due : State → Bool} {act : State → State} {s : State} (h : Safe s (act s)) :
    Safe s (settle due act s) :=
  settle_keeps (P := Safe s) (Safe.refl s) (fun _ => h)

theorem Quiet.settleRecompute (s : State) (p : Fin 16) : Quiet s (settleRecompute s p) := Quiet.settle (Quiet.takeClear s p)

theorem Quiet.settlePortal (s : State) (p : Fin 16) : Quiet s (settlePortal s p) := by
  have opened (t : State) : Quiet t (Machine.settle (·.leafDue p true) (·.leafOpened p) t) :=
    Quiet.settle (Quiet.leafOpened t p)
  have closed (t : State) : Quiet t (Machine.settle (·.leafDue p false) (·.leafClosed p) t) :=
    Quiet.settle (Quiet.leafClosed t p)
  have pressed (t : State) : Quiet t (Machine.settle (·.exitDue p true) (·.exitPressed p) t) :=
    Quiet.settle (Quiet.exitPressed t p)
  have released (t : State) : Quiet t (Machine.settle (·.exitDue p false) (·.exitReleased p) t) :=
    Quiet.settle (Quiet.exitReleased t p)
  have lapsed (t : State) : Quiet t (Machine.settle (·.unlockDue p) (·.expireUnlock p) t) :=
    Quiet.settle (Quiet.expireUnlock t p)
  have held (t : State) : Quiet t (Machine.settle (·.heldDue p) (·.expireHeld p) t) :=
    Quiet.settle (Quiet.expireHeld t p)
  have counted (t : State) : Quiet t (Machine.settle (·.interruptionDue p) (·.interrupt p) t) :=
    Quiet.settle (Quiet.interrupt t p)
  have rearmed (t : State) : Quiet t (Machine.settle (·.rearmDue p) (·.rearm p) t) := Quiet.settle (Quiet.rearm t p)
  exact (opened s).trans <| (closed _).trans <| (pressed _).trans <| (released _).trans <| (lapsed _).trans <|
    (held _).trans <| (counted _).trans (rearmed _)

theorem Quiet.meetDeadline (s : State) (ticket : Nat) : Quiet s (s.meetDeadline ticket) := by
  unfold State.meetDeadline
  split
  case h_1 e _ => exact Quiet.reachDeadline s e
  case h_2 => exact Quiet.refl s

theorem Quiet.settleDeadline (s : State) (ticket : Nat) : Quiet s (settleDeadline s ticket) :=
  Quiet.settle (Quiet.meetDeadline s ticket)

theorem Quiet.settleSession (s : State) (c : Fin 4) : Quiet s (settleSession s c) := Quiet.settle (Quiet.expireSession s c)

theorem Quiet.settleFrame (s : State) (p : Port) : Quiet s (settleFrame s p) := Quiet.settle (Quiet.abandonFrame s p)

/-- What is due once the fire filter has been taken: the portals' recomputations, the tamper filter, and the timers of
portals, referrals, cars and ports, in the model's order (log entry 7). -/
def State.settleBlocks (s : State) : State :=
  let s := settle State.tamperDue State.setLatch (allPortals.foldl Machine.settleRecompute s)
  let s := allPortals.foldl Machine.settlePortal s
  let s := allCars.foldl Machine.settleSession ((s.referrals.map (·.ticket)).foldl Machine.settleDeadline s)
  Machine.settleFrame (Machine.settleFrame s .office) .field

theorem State.settleDue_eq (s : State) :
    s.settleDue = (settle State.clearDue State.fireEnds (settle State.onsetDue State.fireStarts s)).settleBlocks := rfl

theorem Quiet.settleBlocks (s : State) : Quiet s s.settleBlocks := by
  have hrecompute := Quiet.foldl Quiet.settleRecompute allPortals s
  have htamper := Quiet.settle (due := State.tamperDue) (Quiet.setLatch (allPortals.foldl Machine.settleRecompute s))
  unfold State.settleBlocks
  dsimp only
  refine hrecompute.trans (htamper.trans ?_)
  generalize Machine.settle State.tamperDue State.setLatch (allPortals.foldl Machine.settleRecompute s) = t
  refine (Quiet.foldl Quiet.settlePortal allPortals t).trans ?_
  generalize allPortals.foldl Machine.settlePortal t = u
  exact (Quiet.foldl Quiet.settleDeadline _ u).trans <| (Quiet.foldl Quiet.settleSession allCars _).trans <|
    (Quiet.settleFrame _ .office).trans (Quiet.settleFrame _ .field)

theorem Safe.settleDue (s : State) : Safe s s.settleDue := by
  rw [State.settleDue_eq]
  exact ((Safe.settle (Safe.fireStarts s)).trans (Safe.settle (Safe.fireEnds _))).trans (Quiet.settleBlocks _).safe

theorem Quiet.supplyClock (s : State) : Quiet s s.supplyClock :=
  Quiet.ite (fun _ => Quiet.refl s) (fun _ => Quiet.clock s _)

theorem Quiet.setStraps (s : State) (x : Option Straps) : Quiet s (s.setStraps x) := by
  cases x with
  | none => exact Quiet.refl s
  | some x => exact (Quiet.pins s _).trans (Quiet.supplyClock _)

theorem Quiet.takeBoundary (s : State) : Quiet s s.takeBoundary := by
  unfold State.takeBoundary
  refine (Quiet.clock s s.clock.nextMinute).trans (Quiet.whenRunning ?_)
  exact (Quiet.countOutOfWindow _).trans (Quiet.foldl Quiet.portalBoundary allPortals _)

theorem Quiet.stepClock (s : State) : Quiet s s.stepClock :=
  Quiet.ite (fun _ => (Quiet.clock s _).trans (Quiet.ite (fun _ => Quiet.takeBoundary _) (fun _ => Quiet.refl _)))
    (fun _ => Quiet.refl s)

theorem Safe.tick (s : State) (x : Option Straps) : Safe s (s.tick x) := by
  unfold State.tick
  split
  case isTrue => exact ((Quiet.setStraps s x).trans (Quiet.takeBoundary _)).safe
  case isFalse => exact (Safe.settleDue s).trans ((Quiet.setStraps _ x).trans (Quiet.stepClock _)).safe

theorem Safe.openBoundary (s : State) : Safe s s.openBoundary := (Safe.settleDue s).trans (Quiet.clock _ _).safe

theorem Safe.timed {due : State → Bool} {act : State → State} (h : ∀ t, Safe t (act t)) (s : State) :
    Safe s (timed due act s) := by
  rcases timed_cases due act s with ⟨_, htimed⟩ | ⟨_, _, htimed⟩ | htimed <;> rw [htimed]
  case inl => exact h s
  case inr.inl => exact (Safe.openBoundary s).trans (h _)
  case inr.inr => exact Safe.refl s

theorem Quiet.timed {due : State → Bool} {act : State → State} (h : ∀ t, Quiet t (act t)) (s : State) :
    Safe s (timed due act s) :=
  Safe.timed (fun t => (h t).safe) s

theorem Safe.boundary (s : State) : Safe s s.boundary := by
  unfold State.boundary
  split
  case isTrue => exact Safe.tick s none
  case isFalse => exact Safe.refl s

/-! ## Every command -/

/-- The commands that apply or take away a supply, drive RESET_N or complete restore. -/
def turnsPart : Instr → Bool
  | .powerOn | .mainPowerLoss | .resetAssert | .resetNegate | .restoreComplete => true
  | _ => false

/-- A command of the catalogue is performed as the request it is, frame or no frame. -/
theorem exec_of_request {c : Instr} (h : requestPort c ≠ none) (s : State) : exec c s = performRequest c s := by
  cases c <;> simp only [requestPort, ne_eq, not_true_eq_false, reduceCtorEq, not_false_eq_true] at h <;> rfl

/-- Every command that does not turn the part on or off leaves a running part's laws as they were. -/
theorem exec_safe {c : Instr} (hc : turnsPart c = false) (s : State) : ∃ u, exec c s = done u ∧ Safe s u := by
  have hquiet : ∀ {u}, exec c s = done u ∧ Quiet s u → ∃ u, exec c s = done u ∧ Safe s u :=
    fun h => ⟨_, h.1, h.2.safe⟩
  have hperform : requestPort c ≠ none → ∃ u, exec c s = done u ∧ Safe s u := fun hport => by
    obtain ⟨u, hu⟩ := performRequest_quiet c s
    exact hquiet (exec_of_request hport s ▸ hu)
  cases c
  case powerOn | mainPowerLoss | resetAssert | resetNegate | restoreComplete => exact absurd hc (by decide)
  case vbatLoss => exact hquiet ⟨rfl, (Quiet.pins s _).trans (Quiet.supplyClock _)⟩
  case minuteBoundary => exact ⟨_, rfl, Safe.boundary s⟩
  case tick x => exact ⟨_, rfl, Safe.tick s x⟩
  -- the Store's own events
  case slotVerified agrees =>
    refine ⟨_, rfl, ?_⟩
    unfold whenRunning
    split
    case isTrue => exact Safe.slotVerified s agrees
    case isFalse => exact Safe.refl s
  case budgetWriteBack => exact hquiet ⟨rfl, Quiet.whenRunning (Quiet.writeBack s)⟩
  -- frames
  case writeFrame p bytes =>
    obtain ⟨u, hu⟩ := execWriteFrame_quiet p bytes s
    exact hquiet hu
  case readFrame p count ended =>
    obtain ⟨u, hu⟩ := execReadFrame_quiet p count ended s
    exact hquiet hu
  case frameStart p address => exact hquiet ⟨rfl, Quiet.startFrame s p address⟩
  case discardingEnd p => exact hquiet ⟨rfl, Quiet.endDiscarding s p⟩
  case frameTimeout p => exact ⟨_, rfl, Quiet.timed (fun t => Quiet.abandonFrame t p) s⟩
  -- lines
  case leafLineChange p asserted => exact hquiet ⟨rfl, Quiet.leafIn s p asserted⟩
  case exitLineChange p asserted => exact hquiet ⟨rfl, Quiet.exitIn s p asserted⟩
  case beamBreak p => exact hquiet ⟨rfl, Quiet.beamIn s p true _⟩
  case beamClear p => exact hquiet ⟨rfl, Quiet.beamIn s p false _⟩
  case fireInChange high => exact hquiet ⟨rfl, Quiet.fireIn s high⟩
  case tamperLineChange asserted => exact hquiet ⟨rfl, Quiet.tamperIn s asserted⟩
  -- timed events
  case leafOpenRecognized p => exact ⟨_, rfl, Quiet.timed (fun t => Quiet.leafOpened t p) s⟩
  case leafClosedRecognized p => exact ⟨_, rfl, Quiet.timed (fun t => Quiet.leafClosed t p) s⟩
  case exitPress p => exact ⟨_, rfl, Quiet.timed (fun t => Quiet.exitPressed t p) s⟩
  case exitReleaseRecognized p => exact ⟨_, rfl, Quiet.timed (fun t => Quiet.exitReleased t p) s⟩
  case unlockExpiry p => exact ⟨_, rfl, Quiet.timed (fun t => Quiet.expireUnlock t p) s⟩
  case heldTimerExpiry p => exact ⟨_, rfl, Quiet.timed (fun t => Quiet.expireHeld t p) s⟩
  case qualifyingInterruption p => exact ⟨_, rfl, Quiet.timed (fun t => Quiet.interrupt t p) s⟩
  case beamRearmExpiry p => exact ⟨_, rfl, Quiet.timed (fun t => Quiet.rearm t p) s⟩
  case referralDeadline ticket => exact ⟨_, rfl, Quiet.timed (fun t => Quiet.meetDeadline t ticket) s⟩
  case sessionTimerExpiry c => exact ⟨_, rfl, Quiet.timed (fun t => Quiet.expireSession t c) s⟩
  case fireOnset => exact ⟨_, rfl, Safe.timed Safe.fireStarts s⟩
  case fireClear => exact ⟨_, rfl, Safe.timed Safe.fireEnds s⟩
  case fireClearRecomputation p => exact ⟨_, rfl, Quiet.timed (fun t => Quiet.takeClear t p) s⟩
  case tamperLatchSet => exact ⟨_, rfl, Quiet.timed Quiet.setLatch s⟩
  -- requests
  all_goals exact hperform (by simp [requestPort])

/-! ## Supplies, RESET_N and restore (R26, R27, R30) -/

theorem Laws.power (s : State) (x : Power) : Laws s { s with power := x } := ⟨rfl, id, id, id, id, id, id, id⟩

theorem Portal.stopped_closed : Portal.stopped.Closed := fun _ => ⟨rfl, rfl, rfl, rfl, rfl, rfl⟩

theorem Car.stopped_agrees : Car.stopped.SessionAgrees := by simp [Car.SessionAgrees, Car.stopped]

theorem Mirror.empty_wf : Mirror.empty.wf = true := by decide

theorem Laws.interruptProgramming (s : State) : Laws s s.interruptProgramming := by
  unfold State.interruptProgramming
  split
  case h_1 => exact Laws.refl s
  case h_2 =>
    split
    case h_1 => exact Laws.refl s
    case h_2 =>
      exact ⟨rfl, id, id, id, id, id, fun ⟨hslots, hmirror, hduplicates⟩ =>
        ⟨Slots.interrupt_wf hslots _ _, hmirror, hduplicates⟩, id⟩

/-- A part whose blocks stop holds nothing, and its slots stay. -/
theorem Laws.stopBlocks (s : State) : Laws s s.stopBlocks where
  pending := rfl
  journal := fun _ => Nat.zero_le _
  queue := fun _ => ⟨Nat.zero_le _, List.nodup_nil, fun _ he => absurd he List.not_mem_nil, le_refl 1, by simp [State.stopBlocks]⟩
  flags := fun _ p => by cases p <;> simp [State.stopBlocks, State.port, PortState.stopped, flagsAllowed]
  cycles := fun _ => by
    rw [cyclesClosed_iff]
    simp [State.stopBlocks, Portal.stopped_closed]
  sessions := fun _ => by
    rw [sessionsAgree_iff]
    simp [State.stopBlocks, Car.stopped_agrees]
  tables := fun ⟨hslots, _, _⟩ => ⟨hslots, Mirror.empty_wf, rfl⟩
  roster := fun _ => List.nodup_nil

theorem Quiet.restartTicks (s : State) : Quiet s s.restartTicks := Quiet.clock s _

theorem Quiet.sampleStraps (s : State) : Quiet s s.sampleStraps :=
  Quiet.trans (Quiet.trans (Quiet.fireUnit (x := { s.fire with activeHigh := s.pins.straps.firePolHigh }) rfl)
    (Quiet.portDetail (p := .office) (f := fun q => { q with address := officeAddress s.pins.straps }) rfl rfl))
    (Quiet.portDetail (s := State.modPort _ .office _) (p := .field)
      (f := fun q => { q with address := fieldAddress s.pins.straps }) rfl rfl)

theorem Quiet.beginRestore (s : State) : Quiet s s.beginRestore :=
  ((Quiet.restartTicks s).trans (Quiet.sampleStraps _)).trans (Quiet.startFireFilter _)

theorem Laws.powerOn (s : State) : Laws s s.powerOn := by
  unfold State.powerOn
  dsimp only
  split
  case isTrue => exact Laws.refl s
  case isFalse =>
    refine (Laws.stopBlocks s).trans ((Laws.power _ { s.power with main := true }).trans
      (Laws.trans (Quiet.clock _ s.clock.settle.examine).toLaws ?_))
    split
    case isTrue => exact (Quiet.restartTicks _).toLaws
    case isFalse => exact (Quiet.beginRestore _).toLaws

theorem Laws.losePower (s : State) : Laws s s.losePower := by
  unfold State.losePower
  split
  case isTrue =>
    exact (Laws.interruptProgramming s).trans ((Laws.stopBlocks _).trans ((Laws.power _ _).trans
      (Quiet.supplyClock _).toLaws))
  case isFalse => exact Laws.refl s

theorem Laws.assertReset (s : State) : Laws s s.assertReset := by
  unfold State.assertReset
  split
  case isTrue => exact Laws.refl s
  case isFalse => exact (Laws.interruptProgramming s).trans ((Laws.stopBlocks _).trans (Laws.power _ _))

theorem Laws.negateReset (s : State) : Laws s s.negateReset := by
  unfold State.negateReset
  dsimp only
  split
  case isTrue =>
    refine (Laws.power s { s.power with resetAsserted := false }).trans ?_
    split
    case isTrue => exact (Quiet.beginRestore _).toLaws
    case isFalse => exact Laws.refl _
  case isFalse => exact Laws.refl s

/-- The effective mode at restore completion, where no hold stands (R109, R151). -/
def State.begunMode (s : State) (p : Fin 16) : Mode :=
  if s.egressUnderFire p then .free else if s.scheduleVerdict p = .inWindow then .free else (s.portalRec p).baseMode.mode

/-- A portal whose controller has begun: nothing of a cycle, its recognitions unknown and its timers started (R109). -/
def State.begunPortal (s : State) (p : Fin 16) : Portal :=
  let fitted := (s.portalRec p).leafSensor
  { Portal.stopped with
    mode := s.begunMode p
    leaf := if s.begunMode p = .free then .free else .secure
    verdict := s.scheduleVerdict p
    position := if fitted then .unknown else .notSensed
    leafDebounce := if fitted then some (s.after Config.debounceTicks) else none
    exitDebounce := some (s.after Config.debounceTicks)
    beam := if (s.portalRec p).beam then s.beamStart p else .stopped }

theorem State.startPortal_self (s : State) (p : Fin 16) : (s.startPortal p).portals[p] = s.begunPortal p := by
  unfold State.startPortal State.effectiveMode
  dsimp only
  rw [State.modPortal_self, State.modPortal_self]
  rfl

/-- What each portal keeps, and a begun portal has, every portal has after some have begun. -/
theorem State.startPortal_all {P : Portal → Prop} {s : State} (p : Fin 16) (hbegun : P (s.startPortal p).portals[p])
    (h : ∀ q : Fin 16, P s.portals[q]) (q : Fin 16) : P (s.startPortal p).portals[q] := by
  by_cases hq : q = p
  case pos => exact hq ▸ hbegun
  case neg =>
    rw [State.startPortal_other _ hq]
    exact h q

theorem State.startPortal_closed (s : State) (p : Fin 16) : ((s.startPortal p).portals[p]).Closed := by
  rw [State.startPortal_self]
  exact fun _ => ⟨rfl, rfl, rfl, rfl, rfl, rfl⟩

theorem State.startPortal_together (s : State) (p : Fin 16) : ((s.startPortal p).portals[p]).FreeTogether := by
  rw [State.startPortal_self]
  by_cases hmode : s.begunMode p = .free <;> simp [Portal.FreeTogether, State.begunPortal, hmode]

theorem Keeps.startPortal (s : State) (p : Fin 16) : Keeps s (s.startPortal p) where
  pending := rfl
  journal := id
  queue := id
  flags := id
  cycles := fun h => State.startPortal_all (P := Portal.Closed) p (s.startPortal_closed p) h
  sessions := id
  tables := id
  roster := id
  power := rfl
  phase := id
  together := fun h => State.startPortal_all p (s.startPortal_together p) h

theorem Keeps.foldl {α : Type} {f : State → α → State} (hf : ∀ s a, Keeps s (f s a)) (l : List α) (s : State) :
    Keeps s (l.foldl f s) :=
  foldl_invariant (P := Keeps s) (fun t a h => h.trans (hf t a)) l (Keeps.refl s)

theorem Keeps.loadMirror (s : State) : Keeps s s.loadMirror :=
  Keeps.storeState (fun h => by simp at h) (fun ⟨hslots, _, _⟩ =>
    ⟨hslots, Mirror.reconcile_wf (Slots.load_wf hslots), (loadCredentials_wf _).2⟩)

theorem Quiet.startTamperFilter (s : State) : Quiet s s.startTamperFilter := Quiet.fireUnit rfl

theorem Quiet.noteStart (s : State) : Quiet s s.noteStart := Quiet.append s _

theorem Keeps.completeRestore (s : State) : Keeps s s.completeRestore := by
  unfold State.completeRestore
  dsimp only
  split
  case isTrue =>
    refine ((Keeps.loadMirror s).trans (Quiet.noteStart _).toKeeps).trans
      ((Keeps.foldl Keeps.startPortal allPortals _).trans (Quiet.trans ?_ (Quiet.startTamperFilter _)).toKeeps)
    exact Quiet.ite (fun _ => Quiet.noteFireOn _) (fun _ => Quiet.refl _)
  case isFalse => exact Keeps.refl s

/-- Every command keeps the queue of commands and the laws. -/
theorem exec_laws (c : Instr) (s : State) : ∃ u, exec c s = done u ∧ Laws s u := by
  cases hc : turnsPart c with
  | false =>
    obtain ⟨u, hu, hsafe⟩ := exec_safe hc s
    exact ⟨u, hu, hsafe.toLaws⟩
  | true =>
    cases c
    case powerOn => exact ⟨_, rfl, Laws.powerOn s⟩
    case mainPowerLoss => exact ⟨_, rfl, Laws.losePower s⟩
    case resetAssert => exact ⟨_, rfl, Laws.assertReset s⟩
    case resetNegate => exact ⟨_, rfl, Laws.negateReset s⟩
    case restoreComplete => exact ⟨_, rfl, (Keeps.completeRestore s).toLaws⟩
    all_goals exact absurd hc Bool.false_ne_true

/-! ## Steps -/

theorem step_of_pending {c : Instr} {rest : List Instr} {s : State} (h : s.pending = c :: rest) :
    step s = exec c { s with pending := rest } := by
  simp [step, h]

theorem step_of_empty {s : State} (h : s.pending = []) : step s = .next s := by
  simp [step, h]

/-- Settles O1, from the two cases of the queue. -/
theorem stepRunsFront : Obligations.StepRunsFront :=
  ⟨fun _ _ _ => step_of_pending, fun _ => step_of_empty⟩

/-- A step idles, or runs a command on the state without it. -/
theorem step_cases {s t : State} (h : step s = .next t) :
    t = s ∨ ∃ c rest, s.pending = c :: rest ∧ exec c { s with pending := rest } = .next t := by
  cases hqueue : s.pending with
  | nil =>
    rw [step_of_empty hqueue] at h
    exact .inl (Host.Outcome.next.inj h).symm
  | cons c rest =>
    rw [step_of_pending hqueue] at h
    exact .inr ⟨c, rest, rfl, h⟩

/-- What does not look at the queue of commands, and every command keeps, every step keeps. -/
theorem step_keeps {P : State → Prop} (hqueue : ∀ (s : State) (l : List Instr), P s → P { s with pending := l })
    (hexec : ∀ (c : Instr) (s t : State), exec c s = .next t → P s → P t) {s t : State} (h : step s = .next t) (hs : P s) :
    P t := by
  rcases step_cases h with rfl | ⟨c, rest, _, hc⟩
  · exact hs
  · exact hexec c _ t hc (hqueue s rest hs)

/-- After every command the laws are kept, with the output pins driven. -/
theorem exec_next_laws {c : Instr} {s t : State} (h : exec c s = .next t) : Laws s t := by
  obtain ⟨u, hu, hlaws⟩ := exec_laws c s
  rw [hu, done_eq] at h
  exact h ▸ hlaws.trans (Quiet.drive u).toLaws

/-- Settles O2: every command ends in an event, and what it keeps includes the queue. -/
theorem everyCommandAnswersNext : Obligations.EveryCommandAnswersNext := by
  intro c s
  obtain ⟨u, hu, _⟩ := exec_laws c s
  exact ⟨u.drive, hu, (exec_next_laws hu).pending⟩

/-- Settles O3: an idle step changes nothing, and every command drives the pins. -/
theorem outputsKept : Obligations.OutputsKept := by
  intro s t hs h
  exact step_keeps (P := OutputsFollow) (fun _ _ => id) (fun _ _ _ hc _ => exec_outputsFollow hc) h hs

/-- Settles O4, from what every command keeps. -/
theorem logsKept : Obligations.LogsKept := by
  intro s t h
  exact ⟨step_keeps (fun _ _ => id) (fun _ _ _ hc => (exec_next_laws hc).journal) h,
    step_keeps (fun _ _ => id) (fun _ _ _ hc => (exec_next_laws hc).queue) h,
    step_keeps (P := FlagsOfPorts) (fun _ _ => id) (fun _ _ _ hc => (exec_next_laws hc).flags) h⟩

/-- Settles O5, from what every command keeps. -/
theorem cyclesKept : Obligations.CyclesKept := by
  intro s t h
  exact ⟨step_keeps (fun _ _ => id) (fun _ _ _ hc => (exec_next_laws hc).cycles) h,
    step_keeps (fun _ _ => id) (fun _ _ _ hc => (exec_next_laws hc).sessions) h⟩

/-- Settles O7, from what every command keeps. -/
theorem tablesKept : Obligations.TablesKept := by
  intro s t h
  exact ⟨step_keeps (fun _ _ => id) (fun _ _ _ hc => (exec_next_laws hc).tables) h,
    step_keeps (fun _ _ => id) (fun _ _ _ hc => (exec_next_laws hc).roster) h⟩

end Sys2Proof.Machine

/-! PROOFS. EgressAndRestore: what a RESTORING part holds, the portals as restore completion begins them, and with these the
laws of fire's egress portals, of their strikes, and of the RESTORING part, with the reset state that meets every law (R26,
R27, R151). -/

namespace Sys2Proof.Machine

/-! ## The portals that restore completion begins (R109) -/

/-- Beginning a portal changes the portals alone. -/
theorem State.startPortal_frame (s : State) (p : Fin 16) :
    s.startPortal p = { s with portals := (s.startPortal p).portals } := rfl

theorem State.startPortals_frame (l : List (Fin 16)) (s : State) :
    ∃ v, l.foldl State.startPortal s = { s with portals := v } := by
  induction l generalizing s with
  | nil => exact ⟨s.portals, rfl⟩
  | cons p l ih =>
    obtain ⟨v, hv⟩ := ih (s.startPortal p)
    exact ⟨v, hv⟩

/-- Each portal that has begun stands as its controller began it, whatever others begin after it. -/
theorem State.startPortals_get (l : List (Fin 16)) {s : State} {p : Fin 16} (h : p ∈ l ∨ s.portals[p] = s.begunPortal p) :
    (l.foldl State.startPortal s).portals[p] = s.begunPortal p := by
  induction l generalizing s with
  | nil => exact h.resolve_left List.not_mem_nil
  | cons q l ih =>
    refine (ih (s := s.startPortal q) ?_).trans rfl
    by_cases hself : p = q
    case pos => exact .inr (hself ▸ s.startPortal_self p)
    case neg =>
      rw [s.startPortal_other hself]
      exact h.imp_left (fun hmem => (List.mem_cons.mp hmem).resolve_left hself)

theorem State.startPortals_begun (s : State) (p : Fin 16) :
    (allPortals.foldl State.startPortal s).portals[p] = s.begunPortal p :=
  State.startPortals_get allPortals (.inl (mem_allPortals p))

/-- Restore completion acts on a part that is RESTORING, with power and RESET_N negated (R27). -/
theorem State.completeRestore_of_sampling {s : State} (hsampling : s.sampling = true)
    (hres : s.store.phase = .restoring) :
    s.completeRestore =
      (if s.fire.active then (allPortals.foldl State.startPortal s.loadMirror.noteStart).noteFireOn
       else allPortals.foldl State.startPortal s.loadMirror.noteStart).startTamperFilter := by
  simp [State.completeRestore, hsampling, hres]

theorem State.completeRestore_of_not_sampling {s : State} (hstop : s.sampling = false) : s.completeRestore = s := by
  simp [State.completeRestore, hstop]

theorem State.completeRestore_of_loaded {s : State} (hloaded : s.store.phase ≠ .restoring) : s.completeRestore = s := by
  simp [State.completeRestore, hloaded]

/-- After restore completion the fire state and the portal records are those with which the portals began. -/
theorem Quiet.concludeRestore (s t : State) :
    Quiet t (if s.fire.active then t.noteFireOn else t).startTamperFilter :=
  Quiet.trans (Quiet.ite (fun _ => Quiet.noteFireOn t) (fun _ => Quiet.refl t)) (Quiet.startTamperFilter _)

/-- An append changes the journal, and of the Office Port its flags. -/
theorem State.append_eq (s : State) (r : Record) :
    s.append r = { s with journal := (s.append r).journal, office := (s.append r).office } := by
  apply State.eq_of_fields <;> simp

/-- Restore completes with each portal as its controller begins it. -/
theorem State.completeRestore_portal {s : State} (hsampling : s.sampling = true) (hres : s.store.phase = .restoring)
    (p : Fin 16) : s.completeRestore.portals[p] = s.loadMirror.begunPortal p := by
  have hbegun := s.loadMirror.noteStart.startPortals_begun p
  have hnote : s.loadMirror.noteStart.begunPortal p = s.loadMirror.begunPortal p := by
    rw [State.noteStart, State.append_eq]
    rfl
  rw [State.completeRestore_portals hsampling hres, hbegun, hnote]

theorem State.completeRestore_freed {s : State} (hsampling : s.sampling = true) (hres : s.store.phase = .restoring) :
    FireFrees s.completeRestore ∧ ∀ p : Fin 16, s.completeRestore.portals[p].FreeTogether := by
  rw [State.completeRestore_of_sampling hsampling hres]
  set t := s.loadMirror.noteStart
  have hquiet := Quiet.concludeRestore s (allPortals.foldl State.startPortal t)
  refine ⟨fun p hunder => hquiet.freed p ?_ ?_, hquiet.together (fun p => ?_)⟩
  case refine_1 => rwa [hquiet.egressUnderFire] at hunder
  case refine_2 =>
    rw [hquiet.egressUnderFire] at hunder
    obtain ⟨v, hv⟩ := State.startPortals_frame allPortals t
    rw [hv] at hunder
    have hunder : t.egressUnderFire p = true := hunder
    rw [State.startPortals_begun]
    simp [State.begunPortal, State.begunMode, hunder]
  case refine_3 =>
    rw [State.startPortals_begun, ← State.startPortal_self]
    exact State.startPortal_together t p

/-! ## Fire frees the egress portals (R101, R102, R151) -/

theorem egressFree_iff {s : State} :
    EgressFree s ↔ StoppedRestores s ∧
      (s.running = true → (∀ p : Fin 16, s.portals[p].FreeTogether) ∧ FireFrees s) := by
  simp only [EgressFree, Portal.FreeTogether, FireFrees, forall_and]

theorem State.running_iff {s : State} : s.running = true ↔ s.sampling = true ∧ s.store.phase ≠ .restoring := by
  simp [State.running, State.sampling]

/-- A RESTORING part meets the law of the egress portals, whatever stands in its portals. -/
theorem EgressFree.of_restoring {s : State} (hres : s.store.phase = .restoring) : EgressFree s :=
  ⟨fun _ => hres, fun hrun => absurd hres (State.running_iff.mp hrun).2⟩

/-- A command that takes a supply away or asserts RESET_N leaves the part RESTORING, if it acts at all. -/
theorem exec_turnsPart_of_running {c : Instr} {s : State} (hc : turnsPart c = true) (hrun : s.running = true) :
    ∃ u, exec c s = done u ∧ (u = s ∨ u.store.phase = .restoring) := by
  obtain ⟨hsampling, hloaded⟩ := State.running_iff.mp hrun
  simp only [State.sampling, Bool.and_eq_true, Bool.not_eq_true'] at hsampling
  obtain ⟨hmain, hreset⟩ := hsampling
  cases c
  case powerOn => exact ⟨_, rfl, .inl (by simp [State.powerOn, hmain])⟩
  case mainPowerLoss => exact ⟨_, rfl, .inr (by simp [State.losePower, hmain, State.stopBlocks])⟩
  case resetAssert => exact ⟨_, rfl, .inr (by simp [State.assertReset, hreset, State.stopBlocks])⟩
  case resetNegate => exact ⟨_, rfl, .inl (by simp [State.negateReset, hreset])⟩
  case restoreComplete => exact ⟨_, rfl, .inl (State.completeRestore_of_loaded hloaded)⟩
  all_goals exact absurd hc Bool.false_ne_true

/-- Every command keeps the law of the egress portals: a running part's commands are safe, restore completion begins the
portals by it, and a part that does not run is RESTORING. -/
theorem exec_egressFree {c : Instr} {s : State} (hs : EgressFree s) : ∃ u, exec c s = done u ∧ EgressFree u := by
  have hlaw := egressFree_iff.mp hs
  by_cases hres : s.store.phase = .restoring
  case pos =>
    by_cases hc : c = .restoreComplete
    case pos =>
      refine ⟨s.completeRestore, by rw [hc]; rfl, ?_⟩
      cases hsampling : s.sampling with
      | false =>
        rw [State.completeRestore_of_not_sampling hsampling]
        exact hs
      | true =>
        have hpower : s.completeRestore.sampling = s.sampling := by
          simp only [State.sampling, (Keeps.completeRestore s).power]
        obtain ⟨hfrees, htogether⟩ := State.completeRestore_freed hsampling hres
        exact egressFree_iff.mpr ⟨fun hstop => by simp [hpower, hsampling] at hstop, fun _ => ⟨htogether, hfrees⟩⟩
    case neg =>
      obtain ⟨u, hu, hstays⟩ := exec_of_restoring hres hc
      exact ⟨u, hu, .of_restoring hstays⟩
  case neg =>
    have hsampling : s.sampling = true := by
      by_contra hstop
      exact hres (hs.1 (Bool.eq_false_iff.mpr hstop))
    have hrun := State.running_iff.mpr ⟨hsampling, hres⟩
    obtain ⟨htogether, hfrees⟩ := hlaw.2 hrun
    cases hc : turnsPart c with
    | true =>
      obtain ⟨u, hu, rfl | hstopped⟩ := exec_turnsPart_of_running hc hrun
      · exact ⟨_, hu, hs⟩
      · exact ⟨u, hu, .of_restoring hstopped⟩
    | false =>
      obtain ⟨u, hu, hsafe⟩ := exec_safe hc s
      have hpower : u.sampling = s.sampling := by simp only [State.sampling, hsafe.power]
      exact ⟨u, hu, egressFree_iff.mpr ⟨fun hstop => by simp [hpower, hsampling] at hstop,
        fun _ => ⟨hsafe.together htogether, hsafe.frees hrun hfrees⟩⟩⟩

/-- What drives the output pins leaves the law of the egress portals. -/
theorem EgressFree.drive {s : State} (h : EgressFree s) : EgressFree s.drive := h

/-- Settles O6, from what every command keeps. -/
theorem egressKept : Obligations.EgressKept := by
  intro s t hs h
  refine step_keeps (fun _ _ hlaw => hlaw) (fun c s t hc hlaw => ?_) h hs
  obtain ⟨u, hu, hkept⟩ := exec_egressFree (c := c) hlaw
  rw [hu, done_eq] at hc
  exact hc ▸ hkept.drive

/-- Settles O10: an egress portal under fire is FREE, and the strike follows its leaf state. -/
theorem fireReleasesEgressStrikes : Obligations.FireReleasesEgressStrikes := by
  intro s t hfollow hs h hrun hfire p hegress
  obtain ⟨_, hlaw⟩ := egressFree_iff.mp (egressKept s t hs h)
  obtain ⟨htogether, hfrees⟩ := hlaw hrun
  have hleaf : t.portals[p].leaf = .free :=
    (htogether p).mpr (hfrees p (State.egressUnderFire_iff.mpr ⟨hfire, hegress⟩))
  rw [(outputsKept s t hfollow h).strike p, State.strikeLevel_running hrun, if_pos (.inr hleaf)]

/-! ## A RESTORING part holds nothing (R2, R26) -/

/-- Nothing of the volatile state is held. -/
def HoldsNothing (s : State) : Prop :=
  s.store.mirror = Mirror.empty ∧ s.store.job = none ∧ s.store.waiting = none ∧ s.store.marks = []
    ∧ s.store.duplicates = ⟨[]⟩
    ∧ s.roster = [] ∧ s.portals = Vector.replicate 16 Portal.stopped ∧ s.cars = Vector.replicate 4 Car.stopped
    ∧ s.referrals = [] ∧ s.ticketCounter = 1 ∧ s.journal = [] ∧ s.fire.latch = false ∧ s.fire.tamperFilter = none
    ∧ s.office = PortState.stopped s.office.address ∧ s.field = PortState.stopped s.field.address

theorem restoringHoldsNothing_iff {s : State} :
    RestoringHoldsNothing s ↔ (s.store.phase = .restoring → HoldsNothing s) := Iff.rfl

theorem State.stopBlocks_holdsNothing (s : State) : HoldsNothing s.stopBlocks :=
  ⟨rfl, rfl, rfl, rfl, rfl, rfl, rfl, rfl, rfl, rfl, rfl, rfl, rfl, rfl, rfl⟩

/-- `t` is `s` but for the supplies, the pins and what they drive, the clock, the fire state and its filter, and the
sampled straps. -/
structure Idles (s t : State) : Prop where
  store : t.store = s.store
  roster : t.roster = s.roster
  portals : t.portals = s.portals
  cars : t.cars = s.cars
  referrals : t.referrals = s.referrals
  ticketCounter : t.ticketCounter = s.ticketCounter
  journal : t.journal = s.journal
  latch : t.fire.latch = s.fire.latch
  tamperFilter : t.fire.tamperFilter = s.fire.tamperFilter
  office : t.office = { s.office with address := t.office.address }
  field : t.field = { s.field with address := t.field.address }

theorem Idles.refl (s : State) : Idles s s := ⟨rfl, rfl, rfl, rfl, rfl, rfl, rfl, rfl, rfl, rfl, rfl⟩

theorem Idles.trans {s t u : State} (h : Idles s t) (k : Idles t u) : Idles s u where
  store := k.store.trans h.store
  roster := k.roster.trans h.roster
  portals := k.portals.trans h.portals
  cars := k.cars.trans h.cars
  referrals := k.referrals.trans h.referrals
  ticketCounter := k.ticketCounter.trans h.ticketCounter
  journal := k.journal.trans h.journal
  latch := k.latch.trans h.latch
  tamperFilter := k.tamperFilter.trans h.tamperFilter
  office := by rw [k.office, h.office]
  field := by rw [k.field, h.field]

theorem HoldsNothing.idles {s t : State} (hs : HoldsNothing s) (h : Idles s t) : HoldsNothing t := by
  obtain ⟨hmirror, hjob, hwaiting, hmarks, hduplicates, hroster, hportals, hcars, hqueue, hcounter, hjournal, hlatch,
    htamper, hoffice, hfield⟩ := hs
  unfold HoldsNothing
  rw [h.store, h.roster, h.portals, h.cars, h.referrals, h.ticketCounter, h.journal, h.latch, h.tamperFilter]
  refine ⟨hmirror, hjob, hwaiting, hmarks, hduplicates, hroster, hportals, hcars, hqueue, hcounter, hjournal, hlatch,
    htamper, ?_, ?_⟩
  · rw [h.office, hoffice]
    rfl
  · rw [h.field, hfield]
    rfl

theorem State.modPort_same {s : State} {p : Port} {f : PortState → PortState} (h : f (s.port p) = s.port p) :
    s.modPort p f = s := by
  cases p with
  | office => exact State.eq_of_fields rfl rfl rfl rfl rfl rfl rfl rfl rfl rfl rfl rfl h rfl rfl rfl
  | field => exact State.eq_of_fields rfl rfl rfl rfl rfl rfl rfl rfl rfl rfl rfl rfl rfl h rfl rfl

theorem HoldsNothing.port {s : State} (hs : HoldsNothing s) (p : Port) :
    s.port p = PortState.stopped (s.port p).address := by
  obtain ⟨_, _, _, _, _, _, _, _, _, _, _, _, _, hoffice, hfield⟩ := hs
  cases p with
  | office => exact hoffice
  | field => exact hfield

/-- The ports of a part that holds nothing have no frame to end. -/
theorem HoldsNothing.endFrame {s : State} (hs : HoldsNothing s) (p : Port) : s.endFrame p = s :=
  State.modPort_same (by rw [hs.port p]; rfl)

theorem HoldsNothing.endDiscarding {s : State} (hs : HoldsNothing s) (p : Port) : s.endDiscarding p = s := by
  have hidle : (s.port p).frame = .idle := by rw [hs.port p]; rfl
  simp [State.endDiscarding, hidle]

/-! ### What the commands leave of a part that does not run -/

section
variable {s : State}

theorem Idles.clock (s : State) (k : Clock) : Idles s { s with clock := k } :=
  ⟨rfl, rfl, rfl, rfl, rfl, rfl, rfl, rfl, rfl, rfl, rfl⟩

theorem Idles.pins (s : State) (x : Pins) : Idles s { s with pins := x } :=
  ⟨rfl, rfl, rfl, rfl, rfl, rfl, rfl, rfl, rfl, rfl, rfl⟩

theorem Idles.power (s : State) (x : Power) : Idles s { s with power := x } :=
  ⟨rfl, rfl, rfl, rfl, rfl, rfl, rfl, rfl, rfl, rfl, rfl⟩

theorem Idles.outs (s : State) (x : Outputs) : Idles s { s with outs := x } :=
  ⟨rfl, rfl, rfl, rfl, rfl, rfl, rfl, rfl, rfl, rfl, rfl⟩

theorem Idles.drive (s : State) : Idles s s.drive := Idles.outs s s.outputs

theorem Idles.setFire (s : State) (active : Bool) : Idles s (s.setFire active) :=
  ⟨rfl, rfl, rfl, rfl, rfl, rfl, rfl, rfl, rfl, rfl, rfl⟩

theorem Idles.startFireFilter (s : State) : Idles s s.startFireFilter :=
  ⟨rfl, rfl, rfl, rfl, rfl, rfl, rfl, rfl, rfl, rfl, rfl⟩

theorem Idles.beginRestore (s : State) : Idles s s.beginRestore :=
  ⟨rfl, rfl, rfl, rfl, rfl, rfl, rfl, rfl, rfl, rfl, rfl⟩

theorem Idles.ite {s t u : State} {c : Prop} [Decidable c] (ht : Idles s t) (hu : Idles s u) :
    Idles s (if c then t else u) := by
  split
  case isTrue => exact ht
  case isFalse => exact hu

theorem Idles.supplyClock (s : State) : Idles s s.supplyClock := Idles.ite (Idles.refl s) (Idles.clock s _)

/-- A part that is RESTORING, and stays so. -/
theorem Idles.phase {t : State} (h : Idles s t) (hres : s.store.phase = .restoring) : t.store.phase = .restoring := by
  rw [h.store, hres]

theorem Idles.whenRunning {t : State} (h : Idles s t) (hres : s.store.phase = .restoring) (act : State → State) :
    Idles s (whenRunning t act) := by
  rwa [whenRunning_of_stopped (State.running_of_restoring (h.phase hres))]

/-- Before restore completes the onset and the clear change the fire state alone (R154). -/
theorem Idles.fireStarts (hres : s.store.phase = .restoring) : Idles s s.fireStarts := by
  rw [State.fireStarts_stopped (State.running_of_restoring hres)]
  exact Idles.setFire s true

theorem Idles.fireEnds (hres : s.store.phase = .restoring) : Idles s s.fireEnds := by
  rw [State.fireEnds_stopped (State.running_of_restoring hres)]
  exact Idles.setFire s false

theorem State.settleBlocks_of_stopped (hstop : s.running = false) : s.settleBlocks = s := by
  obtain ⟨htamper, hrecompute, hportal, hdeadline, hsession, hframe⟩ := settle_of_stopped hstop
  unfold State.settleBlocks
  dsimp only
  rw [List.foldl_fixed' hrecompute, htamper, List.foldl_fixed' hportal, List.foldl_fixed' hdeadline,
    List.foldl_fixed' hsession, hframe, hframe]

theorem Idles.settleDue (hres : s.store.phase = .restoring) : Idles s s.settleDue := by
  have honset : Idles s (settle State.onsetDue State.fireStarts s) := Idles.ite (Idles.fireStarts hres) (Idles.refl s)
  have hclear : Idles s (settle State.clearDue State.fireEnds (settle State.onsetDue State.fireStarts s)) :=
    honset.trans (Idles.ite (Idles.fireEnds (honset.phase hres)) (Idles.refl _))
  rw [State.settleDue_eq, State.settleBlocks_of_stopped]
  · exact hclear
  · exact State.running_of_restoring (hclear.phase hres)

theorem Idles.setStraps (s : State) (x : Option Straps) : Idles s (s.setStraps x) := by
  cases x with
  | none => exact Idles.refl s
  | some x => exact (Idles.pins s _).trans (Idles.supplyClock _)

theorem Idles.takeBoundary (hres : s.store.phase = .restoring) : Idles s s.takeBoundary :=
  (Idles.clock s _).whenRunning hres _

theorem Idles.stepClock (hres : s.store.phase = .restoring) : Idles s s.stepClock := by
  have hclock := Idles.clock s s.clock.advance
  exact Idles.ite (Idles.ite (hclock.trans (Idles.takeBoundary (hclock.phase hres))) hclock) (Idles.refl s)

theorem Idles.tick (hres : s.store.phase = .restoring) (x : Option Straps) : Idles s (s.tick x) := by
  have hdue := (Idles.settleDue hres).trans (Idles.setStraps _ x)
  have hstraps := Idles.setStraps s x
  exact Idles.ite (hstraps.trans (Idles.takeBoundary (hstraps.phase hres)))
    (hdue.trans (Idles.stepClock (hdue.phase hres)))

theorem Idles.boundary (hres : s.store.phase = .restoring) : Idles s s.boundary :=
  Idles.ite (Idles.tick hres none) (Idles.refl s)

/-- Of the timed events a RESTORING part takes those that leave its blocks alone. -/
theorem Idles.timed {due : State → Bool} {act : State → State} (hres : s.store.phase = .restoring)
    (hact : ∀ u : State, u.store.phase = .restoring → due u = true → Idles u (act u)) : Idles s (timed due act s) := by
  have hopen : Idles s s.openBoundary := (Idles.settleDue hres).trans (Idles.clock _ _)
  rcases timed_cases due act s with ⟨hdue, htimed⟩ | ⟨_, hdue, htimed⟩ | htimed <;> rw [htimed]
  case inl => exact hact s hres hdue
  case inr.inl => exact hopen.trans (hact _ (hopen.phase hres) hdue)
  case inr.inr => exact Idles.refl s

theorem Idles.timed_of_idle {due : State → Bool} (hres : s.store.phase = .restoring)
    (hidle : ∀ u : State, u.running = false → due u = false) (act : State → State) :
    Idles s (Machine.timed due act s) := by
  refine Idles.timed hres (fun u hu hdue => ?_)
  rw [hidle u (State.running_of_restoring hu)] at hdue
  exact absurd hdue Bool.false_ne_true

/-- A line of a portal takes its level, and no block that does not run takes it. -/
theorem Idles.line (hres : s.store.phase = .restoring) (x : Pins) (act : State → State) {c : Prop} [Decidable c] :
    Idles s (if c then s else Machine.whenRunning { s with pins := x } act) :=
  Idles.ite (Idles.refl s) ((Idles.pins s x).whenRunning hres act)

theorem Idles.fireIn (s : State) (high : Bool) : Idles s (s.fireIn high) :=
  Idles.ite (Idles.refl s) (Idles.ite ((Idles.pins s _).trans (Idles.startFireFilter _)) (Idles.pins s _))

theorem Idles.tamperIn (hres : s.store.phase = .restoring) (asserted : Bool) : Idles s (s.tamperIn asserted) := by
  unfold State.tamperIn
  simp only [State.running_of_restoring hres, Bool.false_and, Bool.false_eq_true, if_false]
  exact Idles.ite (Idles.refl s) (Idles.pins s _)

/-- Every command that does not turn the part leaves a RESTORING part's blocks as they are. -/
theorem exec_idles {c : Instr} (hc : turnsPart c = false) (hres : s.store.phase = .restoring) (hs : HoldsNothing s) :
    ∃ u, exec c s = done u ∧ Idles s u := by
  have hstop := State.running_of_restoring hres
  have hdeaf := State.acknowledges_of_stopped hstop
  cases c
  case powerOn | mainPowerLoss | resetAssert | resetNegate | restoreComplete => exact absurd hc (by decide)
  case vbatLoss => exact ⟨_, rfl, (Idles.pins s _).trans (Idles.supplyClock _)⟩
  case tick x => exact ⟨_, rfl, Idles.tick hres x⟩
  case minuteBoundary => exact ⟨_, rfl, Idles.boundary hres⟩
  case slotVerified | budgetWriteBack => exact ⟨_, rfl, (Idles.refl s).whenRunning hres _⟩
  -- lines
  case leafLineChange | exitLineChange | beamBreak | beamClear => exact ⟨_, rfl, Idles.line hres _ _⟩
  case fireInChange high => exact ⟨_, rfl, Idles.fireIn s high⟩
  case tamperLineChange asserted => exact ⟨_, rfl, Idles.tamperIn hres asserted⟩
  -- frames
  case writeFrame p bytes => exact ⟨s, execWriteFrame_unheard (hdeaf p) bytes, Idles.refl s⟩
  case readFrame p count ended => exact ⟨s, execReadFrame_unheard (hdeaf p) count ended, Idles.refl s⟩
  case frameStart p address =>
    refine ⟨_, rfl, ?_⟩
    simp only [State.startFrame, hdeaf p, hs.endFrame p, Bool.false_eq_true, if_false, ite_self]
    exact Idles.refl s
  case discardingEnd p => exact ⟨s, congrArg done (hs.endDiscarding p), Idles.refl s⟩
  -- timers
  case fireOnset => exact ⟨_, rfl, Idles.timed hres (fun _ hu _ => Idles.fireStarts hu)⟩
  case fireClear => exact ⟨_, rfl, Idles.timed hres (fun _ hu _ => Idles.fireEnds hu)⟩
  case frameTimeout | leafOpenRecognized | leafClosedRecognized | exitPress | exitReleaseRecognized | unlockExpiry
      | heldTimerExpiry | qualifyingInterruption | beamRearmExpiry | referralDeadline | sessionTimerExpiry
      | fireClearRecomputation | tamperLatchSet =>
    exact ⟨_, rfl, Idles.timed_of_idle hres (fun u hu => by simp [State.nothing_due hu]) _⟩
  -- requests
  case putUnit | putTenancy | dropTenancy | putCredential | dropCredential | putProfile | putHolidays | putPortal
      | putCar | putSite =>
    exact ⟨s, congrArg done (takePut_unheard (hdeaf .office)), Idles.refl s⟩
  all_goals exact ⟨s, congrArg done (request_unheard _ (hdeaf _)), Idles.refl s⟩

/-- The commands that turn the part stop every block, or leave a part that holds nothing as it is. -/
theorem turnsPart_holdsNothing {c : Instr} (hc : turnsPart c = true) (h : s.store.phase = .restoring → HoldsNothing s) :
    ∃ u, exec c s = done u ∧ (u.store.phase = .restoring → HoldsNothing u) := by
  cases c
  case powerOn =>
    refine ⟨_, rfl, fun hu => ?_⟩
    unfold State.powerOn at hu ⊢
    dsimp only at hu ⊢
    split at hu
    case isTrue hmain =>
      rw [if_pos hmain]
      exact h hu
    case isFalse hmain =>
      rw [if_neg hmain]
      have hstopped := s.stopBlocks_holdsNothing
      exact hstopped.idles (Idles.ite
        ((Idles.power _ { s.power with main := true }).trans ((Idles.clock _ s.clock.settle.examine).trans (Idles.clock _ _)))
        ((Idles.power _ { s.power with main := true }).trans ((Idles.clock _ s.clock.settle.examine).trans
          (Idles.beginRestore _))))
  case mainPowerLoss =>
    refine ⟨_, rfl, fun hu => ?_⟩
    unfold State.losePower at hu ⊢
    split at hu
    case isTrue hmain =>
      rw [if_pos hmain]
      exact (State.stopBlocks_holdsNothing _).idles ((Idles.power _ _).trans (Idles.supplyClock _))
    case isFalse hmain =>
      rw [if_neg hmain]
      exact h hu
  case resetAssert =>
    refine ⟨_, rfl, fun hu => ?_⟩
    unfold State.assertReset at hu ⊢
    split at hu
    case isTrue hheld =>
      rw [if_pos hheld]
      exact h hu
    case isFalse hheld =>
      rw [if_neg hheld]
      exact (State.stopBlocks_holdsNothing _).idles (Idles.power _ _)
  case resetNegate =>
    have hidles : Idles s s.negateReset := by
      have hpower := Idles.power s { s.power with resetAsserted := false }
      exact Idles.ite (Idles.ite (hpower.trans (Idles.beginRestore _)) hpower) (Idles.refl s)
    exact ⟨_, rfl, fun hu => (h (by rwa [hidles.store] at hu)).idles hidles⟩
  case restoreComplete =>
    refine ⟨_, rfl, fun hu => ?_⟩
    have hres := (Keeps.completeRestore s).phase hu
    cases hsampling : s.sampling with
    | false =>
      rw [State.completeRestore_of_not_sampling hsampling]
      exact h hres
    | true =>
      rw [State.completeRestore_of_sampling hsampling hres] at hu
      have hready := (Quiet.concludeRestore s _).phase hu
      obtain ⟨v, hv⟩ := State.startPortals_frame allPortals s.loadMirror.noteStart
      rw [hv] at hready
      simp [State.noteStart, State.loadMirror] at hready
  all_goals exact absurd hc Bool.false_ne_true

end

/-- Settles O8: a part that is RESTORING has just stopped every block, or was RESTORING and takes no block's command. -/
theorem restoringKept : Obligations.RestoringKept := by
  intro s t hs h
  refine step_keeps (P := RestoringHoldsNothing) (fun _ _ hlaw => hlaw) (fun c s t hc hlaw => ?_) h hs
  have hkept : ∃ u, exec c s = done u ∧ (u.store.phase = .restoring → HoldsNothing u) := by
    cases hturns : turnsPart c with
    | true => exact turnsPart_holdsNothing hturns hlaw
    | false =>
      obtain ⟨u, hu, hsafe⟩ := exec_safe hturns s
      refine ⟨u, hu, fun hures => ?_⟩
      have hres := hsafe.phase hures
      obtain ⟨v, hv, hidles⟩ := exec_idles hturns hres (hlaw hres)
      have heq : u.drive = v.drive := Host.Outcome.next.inj (hu.symm.trans hv)
      have hdriven := (HoldsNothing.idles (hlaw hres) hidles).idles (Idles.drive v)
      rw [← heq] at hdriven
      exact hdriven
  obtain ⟨u, hu, hholds⟩ := hkept
  rw [hu, done_eq] at hc
  subst hc
  exact fun hres => (hholds hres).idles (Idles.drive u)

/-- Settles O9: the reset state is RESTORING and holds nothing, so that each law speaks of nothing. -/
theorem resetMeetsLaws : Obligations.ResetMeetsLaws := by
  have hstopped : ∀ p : Fin 16, State.reset.portals[p] = Portal.stopped := by simp [State.reset]
  have hcars : ∀ c : Fin 4, State.reset.cars[c] = Car.stopped := by simp [State.reset]
  refine ⟨rfl, Nat.zero_le _, ?_, .of_restoring rfl, ?_, ?_, ?_, ?_, List.nodup_nil, fun _ => ?_⟩
  case refine_1 =>
    rw [cyclesClosed_iff]
    exact fun p => hstopped p ▸ Portal.stopped_closed
  case refine_2 =>
    rw [sessionsAgree_iff]
    exact fun c => hcars c ▸ Car.stopped_agrees
  case refine_3 => exact ⟨Nat.zero_le _, List.nodup_nil, fun _ he => absurd he List.not_mem_nil, by decide⟩
  case refine_4 => exact ⟨by decide, Mirror.empty_wf, rfl⟩
  case refine_5 => exact fun p => by cases p <;> exact ⟨by decide, by decide⟩
  case refine_6 => exact ⟨rfl, rfl, rfl, rfl, rfl, rfl, rfl, rfl, rfl, rfl, rfl, rfl, rfl, rfl, rfl⟩

end Sys2Proof.Machine

/-! PROOFS. JournalAndReads: an append by the length of the journal, the event of a request by what its owner does, and with
these the journal, the reads, the event flags, SET_CLOCK and CLEAR_ROSTER. -/

namespace Sys2Proof.Machine

/-! ## An append by the length of the journal (R159, R161, R162) -/

/-- Below 512 records an append grows the list at its end, and raises JOURNAL_HALF where it reaches 256. -/
theorem State.append_of_room {s : State} (r : Record) (hroom : s.journal.length < 512) :
    s.append r =
      { s with
        journal := s.journal ++ [r]
        office :=
          { s.office with
            flags := if s.journal.length + 1 = 256 then s.office.flags ||| Flag.journalHalf.bit else s.office.flags } } := by
  unfold State.append Config.journalCapacity Config.journalHalf
  rw [if_pos hroom]
  dsimp only
  split <;> rfl

/-- A full list loses its oldest record and marks the next. -/
theorem State.append_of_full {s : State} (r : Record) (hfull : 512 ≤ s.journal.length) :
    s.append r =
      { s with
        journal := markGap (s.journal.drop 1) ++ [r]
        office := { s.office with flags := s.office.flags ||| Flag.journalGap.bit } } := by
  unfold State.append Config.journalCapacity
  rw [if_neg (not_lt.mpr hfull)]
  rfl

/-! ## The event of a request by what its owner does (R173, R174) -/

@[simp] theorem State.holdReply_running (s : State) (p : Port) (r : Reply) : (s.holdReply p r).running = s.running := by
  simp [State.running]
@[simp] theorem State.holdReply_office_office (s : State) (r : Reply) :
    (s.holdReply .office r).office = { s.office with reply := some r } := rfl
@[simp] theorem State.holdReply_office_field (s : State) (r : Reply) : (s.holdReply .office r).field = s.field := rfl
@[simp] theorem State.holdReply_field_office (s : State) (r : Reply) : (s.holdReply .field r).office = s.office := rfl
@[simp] theorem State.holdReply_field_field (s : State) (r : Reply) :
    (s.holdReply .field r).field = { s.field with reply := some r } := rfl
@[simp] theorem State.endFrame_office_office (s : State) :
    (s.endFrame .office).office = { s.office with frame := .idle, buffer := [], timer := none } := rfl
@[simp] theorem State.endFrame_office_field (s : State) : (s.endFrame .office).field = s.field := rfl
@[simp] theorem State.endFrame_field_office (s : State) : (s.endFrame .field).office = s.office := rfl
@[simp] theorem State.endFrame_field_field (s : State) :
    (s.endFrame .field).field = { s.field with frame := .idle, buffer := [], timer := none } := rfl

theorem done_request {p : Port} {s : State} {owner : State → State × Reply} {t : State} {r : Reply}
    (hack : s.acknowledges p = true) (howner : owner (s.endFrame p) = (t, r)) :
    done (request p s owner) = .next (t.holdReply p r).drive := by
  rw [request_performed owner hack, howner]
  rfl

/-- The event of a request whose owner leaves the state as it is: the port is answered, and nothing else changes. -/
theorem done_request_answers {p : Port} {s : State} {owner : State → State × Reply} {r : Reply}
    (hack : s.acknowledges p = true) (howner : owner (s.endFrame p) = (s.endFrame p, r)) :
    done (request p s owner) = .next (s.modPort p (fun q => q.answered r)).drive := by
  rw [request_reads hack howner]
  rfl

theorem done_request_field_reads {s : State} {owner : State → State × Reply} {r : Reply}
    (hack : s.acknowledges .field = true) (howner : owner (s.endFrame .field) = (s.endFrame .field, r)) :
    done (request .field s owner) = .next (State.drive { s with field := s.field.answered r }) := by
  rw [request_reads hack howner]
  rfl

/-- A read is answered by what it reads of the state with the frame ended. -/
theorem done_request_read {p : Port} {s : State} {owner : State → State × Reply} (hack : s.acknowledges p = true)
    (howner : (owner (s.endFrame p)).1 = s.endFrame p) :
    done (request p s owner) = .next (s.modPort p (fun q => q.answered (owner (s.endFrame p)).2)).drive :=
  done_request_answers hack (Prod.ext howner rfl)

/-! ## The journal -/

theorem inRange_iff {n lo hi : Nat} : inRange n lo hi = true ↔ lo ≤ n ∧ n ≤ hi := by
  simp [inRange]

theorem takeJournal_of_range {n : Nat} (h1 : 1 ≤ n) (h8 : n ≤ 8) (s : State) :
    takeJournal n s =
      ({ s with journal := s.journal.drop n },
        Reply.done (byte1 (min n s.journal.length) ++ byte2 (s.journal.length - n)
          ++ (s.journal.take n).flatMap Record.bytes)) := by
  simp only [takeJournal, inRange_iff.mpr ⟨h1, h8⟩, if_true, List.length_take, List.length_drop]

theorem takeJournal_of_outside {n : Nat} (h : n = 0 ∨ 8 < n) (s : State) :
    takeJournal n s = (s, Reply.refusal .badValue) := by
  have hout : inRange n 1 8 = false := by rw [Bool.eq_false_iff, Ne, inRange_iff]; omega
  simp [takeJournal, hout]

/-- Settles O14: an append by the length of the journal, and TAKE_JOURNAL by its count. -/
theorem journalRing : Obligations.JournalRing := by
  refine ⟨fun s r => ⟨fun hroom hhalf => ?_, fun hhalf => ?_, fun x y rest hlist hfull => ?_⟩,
    fun s n hack h1 h8 => ?_, fun s n hack hout => ?_⟩
  case refine_1 => rw [State.append_of_room r hroom, if_neg hhalf]
  case refine_2 =>
    rw [State.append_of_room r (by omega), if_pos hhalf]
    rfl
  case refine_3 =>
    rw [State.append_of_full r hfull, hlist]
    rfl
  case refine_4 => exact done_request hack (takeJournal_of_range h1 h8 _)
  case refine_5 => exact done_request_office_reads hack (takeJournal_of_outside hout _)

/-! ## Reads -/

/-- Settles O18: the owner of each read leaves the state to its own port. -/
theorem readsChangeNothing : Obligations.ReadsChangeNothing := by
  intro s p hack
  obtain ⟨hroster, hrecord, hportal, hcar, hstatus, hevents, hlist⟩ := reads_leave (s.endFrame p) p
  refine ⟨fun kind key => ⟨_, done_request_read hack (hrecord kind key)⟩, fun n => ⟨_, done_request_read hack (hportal n)⟩,
    fun n => ⟨_, done_request_read hack (hcar n)⟩, ⟨_, done_request_read hack hstatus⟩,
    ⟨_, done_request_read hack hevents⟩, ?_, ?_⟩
  · rintro rfl
    exact ⟨_, done_request_read hack hlist⟩
  · rintro rfl n
    exact ⟨_, done_request_read hack (hroster n)⟩

/-! ## Event flags and masks (R156, R167, R168) -/

theorem flagsAllowed_iff {p : Port} {x : Set16} : flagsAllowed p x = true ↔ x &&& ~~~(portFlags p) = 0 := by
  simp [flagsAllowed]

theorem clearEvents_of_allowed {p : Port} {flags : Set16} (h : flagsAllowed p flags = true) (s : State) :
    clearEvents p flags s = (s.clearFlags p flags, Reply.done (bytesOfSet ((s.clearFlags p flags).port p).flags)) := by
  simp [clearEvents, h]

theorem clearEvents_of_foreign {p : Port} {flags : Set16} (h : flagsAllowed p flags ≠ true) (s : State) :
    clearEvents p flags s = (s, Reply.refusal .badValue) := by
  simp [clearEvents, h]

theorem setEventMask_of_allowed {p : Port} {mask : Set16} (h : flagsAllowed p mask = true) (s : State) :
    setEventMask p mask s = (s.modPort p (fun q => { q with mask := mask }), Reply.done (bytesOfSet mask)) := by
  simp [setEventMask, h]

theorem setEventMask_of_foreign {p : Port} {mask : Set16} (h : flagsAllowed p mask ≠ true) (s : State) :
    setEventMask p mask s = (s, Reply.refusal .badValue) := by
  simp [setEventMask, h]

theorem namesTamper_eq (flags : Set16) : namesTamper flags = flags.getLsbD 8 := rfl

/-- The named flags of the Office Port are cleared, and no other change is due: TAMPER is not named, or the latch is
clear. -/
theorem State.clearFlags_office {s : State} {flags : Set16} (h : flags.getLsbD 8 = false ∨ s.fire.latch = false) :
    s.clearFlags .office flags = s.modPort .office (fun q => { q with flags := q.flags &&& ~~~flags }) := by
  unfold State.clearFlags
  dsimp only
  rcases h with htamper | hlatch
  · rw [namesTamper_eq, htamper]
    rfl
  · split
    case isTrue => simp [State.clearLatch, hlatch]
    case isFalse => rfl

/-- Clearing TAMPER with TAMPER negated clears a set latch (R156). -/
theorem State.clearFlags_clears {s : State} {flags : Set16} (hnamed : flags.getLsbD 8 = true)
    (hlatch : s.fire.latch = true) (hline : s.pins.tamper = false) :
    s.clearFlags .office flags =
      { s with
        fire := { s.fire with latch := false, tamperFilter := none }
        office := { s.office with flags := s.office.flags &&& ~~~flags } } := by
  simp [State.clearFlags, (namesTamper_eq flags).trans hnamed, State.clearLatch, hlatch, hline, State.modPort]

/-- Clearing TAMPER with TAMPER asserted leaves the latch and raises the flag again (R156). -/
theorem State.clearFlags_raises {s : State} {flags : Set16} (hnamed : flags.getLsbD 8 = true)
    (hlatch : s.fire.latch = true) (hline : s.pins.tamper = true) :
    s.clearFlags .office flags =
      { s with office := { s.office with flags := s.office.flags &&& ~~~flags ||| 0x0100 } } := by
  simp [State.clearFlags, (namesTamper_eq flags).trans hnamed, State.clearLatch, hlatch, hline, State.modPort, State.raise, Flag.bit, Flag.code]

theorem attention_iff {q : PortState} : attention q = true ↔ q.flags &&& ~~~q.mask ≠ 0 := by
  simp [attention]

/-- While the part runs, an attention line follows its port (R167). -/
theorem State.drive_oattn {s : State} (hrun : s.running = true) : s.drive.outs.oattn = attention s.office := by
  simp [State.drive, State.outputs, hrun]

theorem State.drive_fattn {s : State} (hrun : s.running = true) : s.drive.outs.fattn = attention s.field := by
  simp [State.drive, State.outputs, hrun]

theorem State.running_of_acknowledges {s : State} {p : Port} (hack : s.acknowledges p = true) : s.running = true := by
  simp only [State.acknowledges, Bool.and_eq_true] at hack
  exact hack.1

/-- Settles O20: the owners of the two requests by whether the set names the port's own flags, and the latch by TAMPER. -/
theorem flagsAndMasks : Obligations.FlagsAndMasks := by
  have hoffice (x : Set16) : flagsAllowed .office x = true ↔ x &&& ~~~0x0FFF#16 = 0 := flagsAllowed_iff
  have hfield (x : Set16) : flagsAllowed .field x = true ↔ x &&& ~~~0x3DF0#16 = 0 := flagsAllowed_iff
  refine ⟨fun s flags => ⟨fun hack h => ?_, fun hack h hlatch => ?_, fun hack h hnamed hlatch hline => ?_,
      fun hack h hnamed hlatch hline => ?_, fun hack h => ?_, fun hack h => ?_⟩,
    fun s mask hack => ⟨fun h => ?_, fun h => ?_⟩, fun s mask hack => ⟨fun h => ?_, fun h => ?_⟩⟩
  -- CLEAR_EVENTS
  case refine_1 => exact done_request hack (clearEvents_of_allowed ((hfield _).mpr h) _)
  case refine_2 =>
    refine (done_request hack (clearEvents_of_allowed ((hoffice _).mpr h) _)).trans ?_
    rw [State.clearFlags_office (s := s.endFrame .office) hlatch]
    rfl
  case refine_3 =>
    refine (done_request hack (clearEvents_of_allowed ((hoffice _).mpr h) _)).trans ?_
    rw [State.clearFlags_clears (s := s.endFrame .office) hnamed hlatch hline]
    rfl
  case refine_4 =>
    refine (done_request hack (clearEvents_of_allowed ((hoffice _).mpr h) _)).trans ?_
    rw [State.clearFlags_raises (s := s.endFrame .office) hnamed hlatch hline]
    rfl
  case refine_5 => exact done_request_field_reads hack (clearEvents_of_foreign (mt (hfield _).mp h) _)
  case refine_6 => exact done_request_office_reads hack (clearEvents_of_foreign (mt (hoffice _).mp h) _)
  -- SET_EVENT_MASK
  case refine_7 =>
    refine ⟨_, done_request hack (setEventMask_of_allowed ((hoffice _).mpr h) _), ?_, ?_⟩
    · apply State.eq_of_fields <;> simp [State.modPort, PortState.answered, Reply.done, bytesOfSet]
    · have hrun := State.running_of_acknowledges hack
      rw [State.drive_oattn (by simpa using hrun)]
      exact attention_iff
  case refine_8 => exact done_request_office_reads hack (setEventMask_of_foreign (mt (hoffice _).mp h) _)
  case refine_9 =>
    refine ⟨_, done_request hack (setEventMask_of_allowed ((hfield _).mpr h) _), ?_, ?_⟩
    · apply State.eq_of_fields <;> simp [State.modPort, PortState.answered, Reply.done, bytesOfSet]
    · have hrun := State.running_of_acknowledges hack
      rw [State.drive_fattn (by simpa using hrun)]
      exact attention_iff
  case refine_10 => exact done_request_field_reads hack (setEventMask_of_foreign (mt (hfield _).mp h) _)

/-! ## SET_CLOCK (R32, R33) -/

theorem setClock_of_range {day minute second : Nat} (hday : day ≤ 65535) (hminute : minute ≤ 1439) (hsecond : second ≤ 59)
    (s : State) :
    setClock day minute second s =
      (State.note { s with clock := s.clock.load day minute second } .clockSet none
        (some (if s.clock.valid then 0 else 1)), Reply.done []) := by
  simp [setClock, hday, hminute, hsecond]

theorem setClock_of_outside {day minute second : Nat} (h : 65535 < day ∨ 1439 < minute ∨ 59 < second) (s : State) :
    setClock day minute second s = (s, Reply.refusal .badValue) := by
  have hout : ¬(decide (day ≤ 65535) && decide (minute ≤ 1439) && decide (second ≤ 59)) = true := by
    simp only [Bool.and_eq_true, decide_eq_true_eq]
    omega
  simp [setClock, hout]

/-- Settles O21: the clock is loaded, and then its record appended. -/
theorem setClockLoads : Obligations.SetClockLoads := by
  intro s day minute second hack
  refine ⟨fun hday hminute hsecond => ⟨_, done_request hack (setClock_of_range hday hminute hsecond _), ?_, ?_, ?_, ?_⟩,
    fun h => done_request_office_reads hack (setClock_of_outside h _)⟩
  · simp [State.note, Clock.load]
  · simp [State.note, State.blankRecord, Clock.load]
  · simp [Reply.done]
  · apply State.eq_of_fields <;> simp [State.note]

/-! ## CLEAR_ROSTER (R80) -/

/-- Every car is emptied. -/
theorem State.clearCars_get (s : State) (c : Fin 4) :
    (allCars.foldl (fun t c => t.modCar c Car.clear) s).cars[c] = s.cars[c].clear := by
  fin_cases c <;> simp [allCars, State.modCar]

/-- The Car Units alone change when every car is emptied. -/
theorem State.clearCars_frame (s : State) :
    ∃ v, allCars.foldl (fun t c => t.modCar c Car.clear) s = { s with cars := v } := ⟨_, rfl⟩

/-- Settles O44, from the fold over the cars and the append of the record. -/
theorem clearRosterEmpties : Obligations.ClearRosterEmpties := by
  intro s hack
  have hcar : ∀ c : Fin 4, (allCars.foldl (fun t c => State.modCar t c Car.clear) { s.endFrame .office with roster := [] }).cars[c]
      = s.cars[c].clear := State.clearCars_get { s.endFrame .office with roster := [] }
  obtain ⟨v, hv⟩ := State.clearCars_frame { s.endFrame .office with roster := [] }
  rw [hv] at hcar
  refine ⟨_, done_request (t := State.noteDropped { s.endFrame .office with roster := [], cars := v } none s.roster.length)
    (r := Reply.done (byte2 s.roster.length)) hack ?_, ?_, fun c => ?_, ?_, ?_, ?_⟩
  case refine_1 =>
    unfold clearRoster
    rw [hv]
    rfl
  case refine_2 => simp [State.noteDropped]
  case refine_3 =>
    have hthis := hcar c
    simpa [State.noteDropped, Car.clear] using hthis
  case refine_4 => simp [State.noteDropped, State.blankRecord]
  case refine_5 => simp [Reply.done]
  case refine_6 => apply State.eq_of_fields <;> simp [State.noteDropped]

end Sys2Proof.Machine

/-! PROOFS. FrameJudging: what the operands of a frame spell is what was laid out in it, each code calls for its own operand
count, and with these the judgement of whole frames and the life of a frame (R171 to R176). -/

namespace Sys2Proof.Machine

/-! ## Numbers and sets through their bytes (R176, R177) -/

theorem fits_one {n : Nat} : fits 1 n = true ↔ n < 256 := by simp [fits]
theorem fits_two {n : Nat} : fits 2 n = true ↔ n < 65536 := by simp [fits]
theorem fits_four {n : Nat} : fits 4 n = true ↔ n < 4294967296 := by simp [fits]

theorem toNat_of_fits {n : Nat} (h : fits 1 n = true) : (BitVec.ofNat 8 n).toNat = n := by
  rw [BitVec.toNat_ofNat, Nat.mod_eq_of_lt (fits_one.mp h)]

theorem fromBytes_byte1 {n : Nat} (h : fits 1 n = true) : fromBytes (byte1 n) = n := by
  simp [fromBytes, byte1, Nat.mod_eq_of_lt (fits_one.mp h)]

theorem fromBytes_byte2 {n : Nat} (h : fits 2 n = true) : fromBytes (byte2 n) = n := by
  have := fits_two.mp h
  simp only [fromBytes, byte2, List.foldl_cons, List.foldl_nil, BitVec.toNat_ofNat]
  omega

theorem fromBytes_byte4 {n : Nat} (h : fits 4 n = true) : fromBytes (byte4 n) = n := by
  have := fits_four.mp h
  simp only [fromBytes, byte4, List.foldl_cons, List.foldl_nil, BitVec.toNat_ofNat]
  omega

theorem fits_set (x : Set16) : fits 2 x.toNat = true := fits_two.mpr x.isLt

theorem ofNat_fromBytes_set (x : Set16) : BitVec.ofNat 16 (fromBytes (bytesOfSet x)) = x := by
  rw [bytesOfSet, fromBytes_byte2 (fits_set x), BitVec.ofNat_toNat, BitVec.setWidth_eq]

theorem numbers1_byte1s {l : List Nat} (h : l.all (fits 1) = true) : numbers1 (byte1s l) = l := by
  induction l with
  | nil => rfl
  | cons n l ih =>
    simp only [List.all_cons, Bool.and_eq_true] at h
    have htail := ih h.2
    simp only [numbers1, byte1s, List.flatMap_cons, List.map_append] at htail ⊢
    rw [htail]
    simp [byte1, Nat.mod_eq_of_lt (fits_one.mp h.1)]

theorem numbers2_byte2s {l : List Nat} (h : l.all (fits 2) = true) : numbers2 (byte2s l) = l := by
  induction l with
  | nil => rfl
  | cons n l ih =>
    simp only [List.all_cons, Bool.and_eq_true] at h
    have hhead := fromBytes_byte2 h.1
    have htail := ih h.2
    simp only [byte2s, List.flatMap_cons, byte2, List.cons_append, List.nil_append, numbers2] at hhead htail ⊢
    rw [hhead, htail]

theorem windowsFrom_bytes {l : List WindowOperand} (h : l.all WindowOperand.wf = true) :
    windowsFrom (l.flatMap windowOperandBytes) = l := by
  induction l with
  | nil => rfl
  | cons w l ih =>
    simp only [List.all_cons, Bool.and_eq_true, WindowOperand.wf] at h
    obtain ⟨⟨hopen, hclose⟩, hrest⟩ := h
    have hopened := fromBytes_byte2 hopen
    have hclosed := fromBytes_byte2 hclose
    have htail := ih hrest
    simp only [List.flatMap_cons, windowOperandBytes, byte2, List.cons_append, List.nil_append, windowsFrom]
      at hopened hclosed htail ⊢
    rw [hopened, hclosed, htail]

/-! ## The operands of PUT_CREDENTIAL, PUT_CAR and READ_RECORD -/

theorem takeOptional_byte1 {x : Option Nat} (h : optFits 1 x = true) (rest : List Byte) :
    takeOptional x.isSome 1 (presentBytes byte1 x ++ rest) = some (x, rest) := by
  cases x with
  | none => rfl
  | some n =>
    have hn := fromBytes_byte1 (by simpa [optFits] using h : fits 1 n = true)
    simp only [byte1] at hn
    simp [takeOptional, presentBytes, byte1, hn]

theorem takeOptional_byte2 {x : Option Nat} (h : optFits 2 x = true) (rest : List Byte) :
    takeOptional x.isSome 2 (presentBytes byte2 x ++ rest) = some (x, rest) := by
  cases x with
  | none => rfl
  | some n =>
    have hn := fromBytes_byte2 (by simpa [optFits] using h : fits 2 n = true)
    simp only [byte2] at hn
    simp [takeOptional, presentBytes, byte2, hn]

/-- The presence operand names each field by its bit, and carries three bits above them. -/
theorem presence_bits : ∀ (a b c d e : Bool) (r : Fin 8),
    (BitVec.ofNat 8 (presenceOf [a, b, c, d, e] + 32 * r.val)).getLsbD 0 = a
      ∧ (BitVec.ofNat 8 (presenceOf [a, b, c, d, e] + 32 * r.val)).getLsbD 1 = b
      ∧ (BitVec.ofNat 8 (presenceOf [a, b, c, d, e] + 32 * r.val)).getLsbD 2 = c
      ∧ (BitVec.ofNat 8 (presenceOf [a, b, c, d, e] + 32 * r.val)).getLsbD 3 = d
      ∧ (BitVec.ofNat 8 (presenceOf [a, b, c, d, e] + 32 * r.val)).getLsbD 4 = e
      ∧ (BitVec.ofNat 8 (presenceOf [a, b, c, d, e] + 32 * r.val)).toNat / 32 = r.val := by
  decide

theorem credentialFrom_bytes {o : CredentialOperands} (h : o.wf = true) :
    credentialFrom (credentialOperandBytes o) = some o := by
  simp only [CredentialOperands.wf, Bool.and_eq_true, decide_eq_true_eq] at h
  obtain ⟨⟨⟨⟨⟨⟨⟨hid, hkind⟩, hstatus⟩, htenancy⟩, hexpiry⟩, hbudget⟩, hprofile⟩, hreserved⟩ := h
  have hzones : optFits 2 (o.staffZones.map BitVec.toNat) = true := by
    cases hz : o.staffZones with
    | none => rfl
    | some x => simpa [optFits] using fits_set x
  have hback : (o.staffZones.map BitVec.toNat).map (BitVec.ofNat 16) = o.staffZones := by
    cases o.staffZones <;> simp
  obtain ⟨h0, h1, h2, h3, h4, hr⟩ := presence_bits o.tenancy.isSome o.expiry.isSome o.budget.isSome
    o.staffProfile.isSome o.staffZones.isSome ⟨o.reserved, hreserved⟩
  have hnumber := fromBytes_byte4 hid
  have hlast := takeOptional_byte2 hzones []
  simp only [Option.isSome_map, List.append_nil] at hlast
  simp only [byte4] at hnumber
  simp only [credentialOperandBytes, byte4, byte1, credentialPresence, List.append_assoc, List.cons_append,
    List.nil_append, credentialFrom, h0, h1, h2, h3, h4, hr, takeOptional_byte2 htenancy, takeOptional_byte2 hexpiry,
    takeOptional_byte1 hbudget, takeOptional_byte1 hprofile, hlast, Option.bind_eq_bind, Option.bind_some,
    List.isEmpty_nil, if_true, hnumber, toNat_of_fits hkind, toNat_of_fits hstatus, hback]

theorem portalFrom_bytes {o : PortalOperands} (h : o.wf = true) : portalFrom (portalOperandBytes o) = some o := by
  simp only [PortalOperands.wf, List.all_cons, List.all_nil, Bool.and_eq_true, Bool.and_true] at h
  obtain ⟨h1, h2, h3, h4, h5, h6, h7, h8, h9, h10, h11, h12, h13, h14, h15, h16, h17⟩ := h
  simp only [portalOperandBytes, byte1s, byte1, List.flatMap_cons, List.flatMap_nil, List.cons_append, List.nil_append,
    portalFrom, toNat_of_fits h1, toNat_of_fits h2, toNat_of_fits h3, toNat_of_fits h4, toNat_of_fits h5, toNat_of_fits h6,
    toNat_of_fits h7, toNat_of_fits h8, toNat_of_fits h9, toNat_of_fits h10, toNat_of_fits h11, toNat_of_fits h12,
    toNat_of_fits h13, toNat_of_fits h14, toNat_of_fits h15, toNat_of_fits h16, toNat_of_fits h17]

theorem carFrom_bytes {o : CarOperands} (h : o.wf = true) : carFrom (carOperandBytes o) = some o := by
  simp only [CarOperands.wf, List.all_cons, List.all_nil, Bool.and_eq_true, Bool.and_true, decide_eq_true_eq] at h
  obtain ⟨⟨⟨h1, h2, h3, h4, h5, h6⟩, hzones⟩, hlength⟩ := h
  have hcount : (BitVec.ofNat 8 o.zones.length).toNat = o.zones.length := toNat_of_fits (fits_one.mpr (by omega))
  have hdrop := List.drop_left (l₁ := byte1s o.zones) (l₂ := byte1s [o.home, o.mode, o.passback, o.window])
  have htake := List.take_left (l₁ := byte1s o.zones) (l₂ := byte1s [o.home, o.mode, o.passback, o.window])
  rw [Laws.Wire.byte1s_length] at hdrop htake
  have hhead : carOperandBytes o =
      BitVec.ofNat 8 o.enabled :: BitVec.ofNat 8 o.landings :: BitVec.ofNat 8 o.zones.length
        :: (byte1s o.zones ++ byte1s [o.home, o.mode, o.passback, o.window]) := by
    simp [carOperandBytes, byte1s, byte1]
  rw [hhead, carFrom, hcount, hdrop, htake, numbers1_byte1s hzones]
  simp only [byte1s, byte1, List.flatMap_cons, List.flatMap_nil, List.cons_append, List.nil_append, toNat_of_fits h1,
    toNat_of_fits h2, toNat_of_fits h3, toNat_of_fits h4, toNat_of_fits h5, toNat_of_fits h6]

theorem profileFrom_bytes {profile grace : Nat} {windows : List WindowOperand} (common : Set16) (hprofile : fits 1 profile = true)
    (hwindows : windows.all WindowOperand.wf = true) (hgrace : fits 1 grace = true) (hlength : windows.length < 256) :
    profileFrom (byte1 profile ++ byte1 windows.length ++ windows.flatMap windowOperandBytes ++ bytesOfSet common
      ++ byte1 grace) = some (.putProfile profile windows common grace) := by
  have hcount : (BitVec.ofNat 8 windows.length).toNat = windows.length := toNat_of_fits (fits_one.mpr hlength)
  have hdrop := List.drop_left (l₁ := windows.flatMap windowOperandBytes) (l₂ := bytesOfSet common ++ byte1 grace)
  have htake := List.take_left (l₁ := windows.flatMap windowOperandBytes) (l₂ := bytesOfSet common ++ byte1 grace)
  rw [Laws.Wire.windowBytes_length] at hdrop htake
  have hset := ofNat_fromBytes_set common
  simp only [bytesOfSet, byte1, byte2, List.append_assoc, List.cons_append, List.nil_append] at hdrop htake hset ⊢
  rw [profileFrom, hcount, hdrop, htake, windowsFrom_bytes hwindows]
  simp only [setOf, hset, toNat_of_fits hprofile, toNat_of_fits hgrace]

/-- The key of a kind travels in the bytes of its kind. -/
theorem fromBytes_keyBytes {kind key : Nat} {k : RecordKind} (hkind : recordKind? kind = some k)
    (h : fits (recordKeyBytes kind) key = true) :
    (keyBytes k.keyLength key).length = k.keyLength ∧ fromBytes (keyBytes k.keyLength key) = key := by
  unfold recordKind? at hkind
  split at hkind
  all_goals
    cases hkind
  case h_1 | h_2 | h_4 => exact ⟨rfl, fromBytes_byte2 h⟩
  case h_3 => exact ⟨rfl, fromBytes_byte4 h⟩
  case h_5 | h_7 | h_8 => exact ⟨rfl, fromBytes_byte1 h⟩
  case h_6 | h_9 =>
    have hzero : key = 0 := by simpa [recordKeyBytes, fits] using h
    exact ⟨rfl, by rw [hzero]; rfl⟩

theorem recordKeyBytes_of_no_kind {kind : Nat} (h : recordKind? kind = none) : recordKeyBytes kind = 0 := by
  unfold recordKind? at h
  split at h
  all_goals cases h
  unfold recordKeyBytes
  split <;> simp_all

theorem recordFrom_bytes (p : Port) {kind key : Nat} (hkind : fits 1 kind = true)
    (hkey : fits (recordKeyBytes kind) key = true) :
    recordFrom p (byte1 kind ++ keyBytes (((recordKind? kind).map RecordKind.keyLength).getD 0) key) =
      some (.readRecord p kind key) := by
  simp only [byte1, List.cons_append, List.nil_append, recordFrom, toNat_of_fits hkind]
  cases hk : recordKind? kind with
  | none =>
    rw [recordKeyBytes_of_no_kind hk] at hkey
    have hzero : key = 0 := by simpa [fits] using hkey
    rw [hzero]
  | some k =>
    obtain ⟨hlength, hback⟩ := fromBytes_keyBytes hk hkey
    simp only [Option.map_some, Option.getD_some]
    rw [if_pos hlength, hback]

/-! ## Every request through its frame (R172, R176) -/

theorem operands_fit {i : Instr} (hwire : Laws.Wire.Statement i) (hwf : i.wf = true) {code : Nat} {l : List Byte}
    (hbytes : requestBytes i = some (code, l)) : l.length ≤ 60 := by
  have hfits := (hwire.2 (frameOf code l) hwf (by simp [requestFrame, hbytes])).1
  rw [Laws.Wire.frameOf_length, Config.frameBufferCapacity] at hfits
  omega

/-- The operands of a well-formed request fit a frame. -/
theorem requestBytes_length {i : Instr} (hwf : i.wf = true) {code : Nat} {l : List Byte}
    (hbytes : requestBytes i = some (code, l)) : l.length ≤ 60 := by
  cases i
  case putTenancy => exact operands_fit (Laws.Wire.putTenancy _ _ _ _) hwf hbytes
  case putCredential => exact operands_fit (Laws.Wire.putCredential _) hwf hbytes
  case putProfile => exact operands_fit (Laws.Wire.putProfile _ _ _ _) hwf hbytes
  case putHolidays => exact operands_fit (Laws.Wire.putHolidays _) hwf hbytes
  case putCar => exact operands_fit (Laws.Wire.putCar _ _) hwf hbytes
  case readRecord => exact operands_fit (Laws.Wire.readRecord _ _ _) hwf hbytes
  all_goals cases hbytes
  all_goals exact Nat.le_of_ble_eq_true rfl

/-- The operands that a well-formed request lays out are read back as that request. -/
theorem requestFrom_bytes {i : Instr} {p : Port} {code : Nat} {l : List Byte} (hwf : i.wf = true)
    (hport : requestPort i = some p) (hbytes : requestBytes i = some (code, l)) :
    requestFrom p code l = some i := by
  cases i
  all_goals cases hbytes
  all_goals cases hport
  all_goals simp only [Instr.wf, Bool.and_eq_true, decide_eq_true_eq] at hwf
  case present.refl.refl reader id =>
    obtain ⟨hreader, hid⟩ := hwf
    show some (Instr.present (BitVec.ofNat 8 reader).toNat (fromBytes (byte4 id))) = _
    rw [toNat_of_fits hreader, fromBytes_byte4 hid]
  case withdraw.refl.refl ticket =>
    show some (Instr.withdraw (BitVec.ofNat 8 ticket).toNat) = _
    rw [toNat_of_fits hwf]
  case takeOutcome.refl.refl ticket =>
    show some (Instr.takeOutcome (BitVec.ofNat 8 ticket).toNat) = _
    rw [toNat_of_fits hwf]
  case carArrival.refl.refl car landing =>
    obtain ⟨hcar, hlanding⟩ := hwf
    show some (Instr.carArrival (BitVec.ofNat 8 car).toNat (BitVec.ofNat 8 landing).toNat) = _
    rw [toNat_of_fits hcar, toNat_of_fits hlanding]
  case putUnit.refl.refl unit zone state =>
    obtain ⟨⟨hunit, hzone⟩, hstate⟩ := hwf
    show some (Instr.putUnit (fromBytes (byte2 unit)) (BitVec.ofNat 8 zone).toNat (BitVec.ofNat 8 state).toNat) = _
    rw [fromBytes_byte2 hunit, toNat_of_fits hzone, toNat_of_fits hstate]
  case dropTenancy.refl.refl tenancy =>
    show some (Instr.dropTenancy (fromBytes (byte2 tenancy))) = _
    rw [fromBytes_byte2 hwf]
  case dropCredential.refl.refl id =>
    show some (Instr.dropCredential (fromBytes (byte4 id))) = _
    rw [fromBytes_byte4 hwf]
  case putSite.refl.refl limit =>
    show some (Instr.putSite (fromBytes (byte2 limit))) = _
    rw [fromBytes_byte2 hwf]
  case setClock.refl.refl day minute second =>
    obtain ⟨⟨hday, hminute⟩, hsecond⟩ := hwf
    show some (Instr.setClock (fromBytes (byte2 day)) (fromBytes (byte2 minute)) (BitVec.ofNat 8 second).toNat) = _
    rw [fromBytes_byte2 hday, fromBytes_byte2 hminute, toNat_of_fits hsecond]
  case holdMode.refl.refl portal mode =>
    obtain ⟨hportal, hmode⟩ := hwf
    show some (Instr.holdMode (BitVec.ofNat 8 portal).toNat (BitVec.ofNat 8 mode).toNat) = _
    rw [toNat_of_fits hportal, toNat_of_fits hmode]
  case releaseHold.refl.refl portal =>
    show some (Instr.releaseHold (BitVec.ofNat 8 portal).toNat) = _
    rw [toNat_of_fits hwf]
  case answerReferral.refl.refl ticket id verdict =>
    obtain ⟨⟨hticket, hid⟩, hverdict⟩ := hwf
    show some (Instr.answerReferral (BitVec.ofNat 8 ticket).toNat (fromBytes (byte4 id)) (BitVec.ofNat 8 verdict).toNat) = _
    rw [toNat_of_fits hticket, fromBytes_byte4 hid, toNat_of_fits hverdict]
  case takeJournal.refl.refl n =>
    show some (Instr.takeJournal (BitVec.ofNat 8 n).toNat) = _
    rw [toNat_of_fits hwf]
  case readRoster.refl.refl start =>
    show some (Instr.readRoster (BitVec.ofNat 8 start).toNat) = _
    rw [toNat_of_fits hwf]
  case dropRosterEntry.refl.refl id =>
    show some (Instr.dropRosterEntry (fromBytes (byte4 id))) = _
    rw [fromBytes_byte4 hwf]
  -- operands that are read by a function of their own
  case putTenancy.refl.refl tenancy state profile units =>
    obtain ⟨⟨⟨⟨htenancy, hstate⟩, hprofile⟩, hunits⟩, hlength⟩ := hwf
    have hcount : (byte2s units).length = 2 * (BitVec.ofNat 8 units.length).toNat := by
      rw [Laws.Wire.byte2s_length, toNat_of_fits (fits_one.mpr (by omega))]
    refine (if_pos hcount).trans ?_
    show some (Instr.putTenancy (fromBytes (byte2 tenancy)) (BitVec.ofNat 8 state).toNat (BitVec.ofNat 8 profile).toNat
      (numbers2 (byte2s units))) = _
    rw [fromBytes_byte2 htenancy, toNat_of_fits hstate, toNat_of_fits hprofile, numbers2_byte2s hunits]
  case putHolidays.refl.refl days =>
    obtain ⟨hdays, hlength⟩ := hwf
    have hcount : (byte2s days).length = 2 * (BitVec.ofNat 8 days.length).toNat := by
      rw [Laws.Wire.byte2s_length, toNat_of_fits (fits_one.mpr (by omega))]
    refine (if_pos hcount).trans ?_
    exact congrArg (fun x => some (Instr.putHolidays x)) (numbers2_byte2s hdays)
  case putCredential.refl.refl o => exact congrArg (Option.map Instr.putCredential) (credentialFrom_bytes hwf)
  case putProfile.refl.refl profile windows common grace =>
    obtain ⟨⟨⟨hprofile, hwindows⟩, hgrace⟩, hlength⟩ := hwf
    exact profileFrom_bytes common hprofile hwindows hgrace (by omega)
  case putPortal.refl.refl portal o =>
    obtain ⟨hportal, hfields⟩ := hwf
    show Option.map (Instr.putPortal (BitVec.ofNat 8 portal).toNat) (portalFrom (portalOperandBytes o)) = _
    rw [portalFrom_bytes hfields, toNat_of_fits hportal]
    rfl
  case putCar.refl.refl car o =>
    obtain ⟨hcar, hfields⟩ := hwf
    show Option.map (Instr.putCar (BitVec.ofNat 8 car).toNat) (carFrom (carOperandBytes o)) = _
    rw [carFrom_bytes hfields, toNat_of_fits hcar]
    rfl
  case readRecord.refl.refl kind key =>
    obtain ⟨hkind, hkey⟩ := hwf
    exact recordFrom_bytes p hkind hkey
  case readPortal.refl.refl portal =>
    show some (Instr.readPortal p (BitVec.ofNat 8 portal).toNat) = _
    rw [toNat_of_fits hwf]
  case readCar.refl.refl car =>
    show some (Instr.readCar p (BitVec.ofNat 8 car).toNat) = _
    rw [toNat_of_fits hwf]
  case clearEvents.refl.refl flags =>
    exact congrArg (fun x => some (Instr.clearEvents p x)) (ofNat_fromBytes_set flags)
  case setEventMask.refl.refl mask =>
    exact congrArg (fun x => some (Instr.setEventMask p x)) (ofNat_fromBytes_set mask)
  -- no operands
  all_goals rfl

end Sys2Proof.Machine

/-! PROOFS. FrameVerdicts: the frame of a well-formed request does what the request does, which frames are refused with which
result code, and how frames open, send and end (R171 to R176). -/

namespace Sys2Proof.Machine

/-! ## The frame of a well-formed request -/

theorem requestFrame_eq {i : Instr} {f : List Byte} (hframe : requestFrame i = some f) :
    ∃ code l, requestBytes i = some (code, l) ∧ f = frameOf code l := by
  unfold requestFrame at hframe
  cases hbytes : requestBytes i with
  | none => simp [hbytes] at hframe
  | some r =>
    simp only [hbytes, Option.map_some, Option.some.injEq] at hframe
    exact ⟨r.1, r.2, rfl, hframe.symm⟩

theorem Port.eq_office_or_field (p : Port) : p = .office ∨ p = .field := by cases p <;> simp

/-- The code of a request is permitted on its port (R176). -/
theorem requestBytes_code {i : Instr} {p : Port} {code : Nat} {l : List Byte} (hport : requestPort i = some p)
    (hbytes : requestBytes i = some (code, l)) : code < 256 ∧ ∃ ports, codePorts code = some ports ∧ p ∈ ports := by
  cases i
  all_goals cases hbytes
  all_goals cases hport
  all_goals refine ⟨by decide, _, rfl, ?_⟩
  all_goals simp [Port.eq_office_or_field]

/-- A request on a port that does not acknowledge its address does nothing (R171). -/
theorem exec_unheard {i : Instr} {p : Port} {s : State} (hport : requestPort i = some p) (hdeaf : s.acknowledges p = false) :
    exec i s = done s := by
  cases i
  all_goals cases hport
  case putUnit | putTenancy | dropTenancy | putCredential | dropCredential | putProfile | putHolidays | putPortal | putCar
      | putSite =>
    exact congrArg done (takePut_unheard hdeaf)
  all_goals exact congrArg done (request_unheard _ hdeaf)

theorem judgeRequest_spelled {p : Port} {code : Nat} {l : List Byte} {ports : List Port} {i : Instr}
    (hports : codePorts code = some ports) (hmem : p ∈ ports) (hspelled : requestFrom p code l = some i) :
    judgeRequest p code l = .request i := by
  simp [judgeRequest, hports, hmem, hspelled]

theorem judgeRequest_miscounted {p : Port} {code : Nat} {l : List Byte} {ports : List Port}
    (hports : codePorts code = some ports) (hmem : p ∈ ports) (hnone : requestFrom p code l = none) :
    judgeRequest p code l = .refused .badLength := by
  simp [judgeRequest, hports, hmem, hnone]

theorem judgeFrame_of_request {i : Instr} {p : Port} {code : Nat} {l : List Byte} (hwf : i.wf = true)
    (hport : requestPort i = some p) (hbytes : requestBytes i = some (code, l)) :
    judgeFrame p (frameOf code l) = .request i := by
  obtain ⟨hcode, ports, hports, hmem⟩ := requestBytes_code hport hbytes
  rw [judgeFrame_frameOf p code (requestBytes_length hwf hbytes), BitVec.toNat_ofNat, Nat.mod_eq_of_lt hcode,
    judgeRequest_spelled hports hmem (requestFrom_bytes hwf hport hbytes)]

/-- Settles O15: the operands are read back, and a frame is performed as the request it spells. -/
theorem frameSpellsRequest : Obligations.FrameSpellsRequest := by
  intro i p f hwf hport hframe
  obtain ⟨code, l, hbytes, rfl⟩ := requestFrame_eq hframe
  have hjudge := judgeFrame_of_request hwf hport hbytes
  refine ⟨hjudge, fun s => ?_⟩
  have hframed : exec (.writeFrame p (frameOf code l)) s = execWriteFrame p (frameOf code l) s := rfl
  rw [hframed]
  cases hack : s.acknowledges p with
  | false => rw [execWriteFrame_unheard hack, exec_unheard hport hack]
  | true =>
    have hrequest : requestPort i ≠ none := by simp [hport]
    rw [execWriteFrame, if_pos hack, hjudge, exec_of_request hrequest]

/-! ## Frames that are refused (R173) -/

theorem judgeRequest_foreign {p : Port} {code : Nat} {ports : List Port} (hports : codePorts code = some ports)
    (hmem : p ∉ ports) (l : List Byte) : judgeRequest p code l = .refused .notPermitted := by
  simp [judgeRequest, hports, hmem]

/-- The catalogue's codes fit a byte. -/
theorem codePorts_lt {code : Nat} {ports : List Port} (hports : codePorts code = some ports) : code < 256 := by
  by_contra hbig
  have hnone : codePorts code = none := by
    have hout {lo hi : Nat} (h : hi < 256) : inRange code lo hi = false := by
      rw [Bool.eq_false_iff, Ne, inRange_iff]
      omega
    simp [codePorts, hout]
  simp [hnone] at hports

theorem judgeFrame_foreign {p : Port} {code : Nat} {l : List Byte} {ports : List Port} (hlength : l.length ≤ 60)
    (hports : codePorts code = some ports) (hmem : p ∉ ports) :
    judgeFrame p (frameOf code l) = .refused .notPermitted := by
  rw [judgeFrame_frameOf p code hlength, BitVec.toNat_ofNat, Nat.mod_eq_of_lt (codePorts_lt hports),
    judgeRequest_foreign hports hmem]

theorem judgeFrame_of_length {p : Port} {bytes : List Byte} (hsome : bytes ≠ []) (h : bytes.length < 3 ∨ 63 < bytes.length) :
    judgeFrame p bytes = .refused .badLength := by
  match bytes, hsome with
  | [_], _ => rfl
  | code :: n :: rest, _ =>
    refine if_pos ?_
    simp only [List.length_cons] at h
    simp only [Bool.or_eq_true, decide_eq_true_eq, bne_iff_ne]
    simp only [Config.frameBufferCapacity, Config.operandCapacity, List.length_cons]
    omega

theorem judgeFrame_of_count {p : Port} {code n : Byte} {rest : List Byte} (h : rest.length ≠ n.toNat + 1) :
    judgeFrame p (code :: n :: rest) = .refused .badLength := by
  refine if_pos ?_
  simp [h]

theorem judgeFrame_of_check {p : Port} {code n : Byte} {rest : List Byte} (hcount : rest.length = n.toNat + 1)
    (hlength : rest.length ≤ 61) (hsum : sumOf (code :: n :: rest) ≠ 0) :
    judgeFrame p (code :: n :: rest) = .refused .check := by
  have hfits : ¬(decide (Config.frameBufferCapacity < (code :: n :: rest).length) || rest.length != n.toNat + 1
      || decide (Config.operandCapacity < n.toNat)) = true := by
    simp only [Bool.or_eq_true, decide_eq_true_eq, bne_iff_ne]
    simp only [Config.frameBufferCapacity, Config.operandCapacity, List.length_cons]
    omega
  exact (if_neg hfits).trans (if_pos (by simpa using hsum))


/-! ## Operand counts (R173 step 6, R176) -/

section
variable {p : Port} {l : List Byte}

theorem requestFrom_none_of_zero {code : Nat} (hcode : code ∈ [0x24, 0x28, 0x33, 0x34]) (h : l.length ≠ 0) :
    requestFrom p code l = none := by
  simp only [List.mem_cons, List.not_mem_nil, or_false] at hcode
  match l, h with
  | _ :: _, _ => rcases hcode with rfl | rfl | rfl | rfl <;> rfl

theorem requestFrom_none_of_one {code : Nat} (hcode : code ∈ [0x02, 0x03, 0x22, 0x25, 0x26, 0x31, 0x32])
    (h : l.length ≠ 1) : requestFrom p code l = none := by
  simp only [List.mem_cons, List.not_mem_nil, or_false] at hcode
  match l, h with
  | [], _ | _ :: _ :: _, _ => rcases hcode with rfl | rfl | rfl | rfl | rfl | rfl | rfl <;> rfl

theorem requestFrom_none_of_two {code : Nat} (hcode : code ∈ [0x04, 0x12, 0x19, 0x21, 0x35, 0x36])
    (h : l.length ≠ 2) : requestFrom p code l = none := by
  simp only [List.mem_cons, List.not_mem_nil, or_false] at hcode
  match l, h with
  | [], _ | [_], _ | _ :: _ :: _ :: _, _ => rcases hcode with rfl | rfl | rfl | rfl | rfl | rfl <;> rfl

theorem requestFrom_none_of_four {code : Nat} (hcode : code ∈ [0x10, 0x14, 0x27]) (h : l.length ≠ 4) :
    requestFrom p code l = none := by
  simp only [List.mem_cons, List.not_mem_nil, or_false] at hcode
  match l, h with
  | [], _ | [_], _ | [_, _], _ | [_, _, _], _ | _ :: _ :: _ :: _ :: _ :: _, _ =>
    rcases hcode with rfl | rfl | rfl <;> rfl

theorem requestFrom_none_of_five {code : Nat} (hcode : code ∈ [0x01, 0x20]) (h : l.length ≠ 5) :
    requestFrom p code l = none := by
  simp only [List.mem_cons, List.not_mem_nil, or_false] at hcode
  match l, h with
  | [], _ | [_], _ | [_, _], _ | [_, _, _], _ | [_, _, _, _], _ | _ :: _ :: _ :: _ :: _ :: _ :: _, _ =>
    rcases hcode with rfl | rfl <;> rfl

theorem requestFrom_none_of_six (h : l.length ≠ 6) : requestFrom p 0x23 l = none := by
  match l, h with
  | [], _ | [_], _ | [_, _], _ | [_, _, _], _ | [_, _, _, _], _ | [_, _, _, _, _], _
  | _ :: _ :: _ :: _ :: _ :: _ :: _ :: _, _ => rfl

theorem portalFrom_length {o : PortalOperands} (h : portalFrom l = some o) : l.length = 17 := by
  unfold portalFrom at h
  split at h
  case h_1 => rfl
  case h_2 => cases h

theorem requestFrom_none_of_eighteen (h : l.length ≠ 18) : requestFrom p 0x17 l = none := by
  match l, h with
  | [], _ => rfl
  | q :: rest, h =>
    show (portalFrom rest).map (Instr.putPortal q.toNat) = none
    cases hfields : portalFrom rest with
    | none => rfl
    | some o => exact absurd (by rw [List.length_cons, portalFrom_length hfields]) h

/-- The codes whose operand count the catalogue gives, each with that count (R176). -/
def countedCodes : List (Nat × Nat) :=
  [(0x01, 5), (0x02, 1), (0x03, 1), (0x04, 2), (0x10, 4), (0x12, 2), (0x14, 4), (0x17, 18), (0x19, 2),
    (0x20, 5), (0x21, 2), (0x22, 1), (0x23, 6), (0x24, 0), (0x25, 1), (0x26, 1), (0x27, 4), (0x28, 0),
    (0x31, 1), (0x32, 1), (0x33, 0), (0x34, 0), (0x35, 2), (0x36, 2)]

theorem requestFrom_none_of_count {code n : Nat} (hcode : (code, n) ∈ countedCodes) (h : l.length ≠ n) :
    requestFrom p code l = none := by
  have hgroups : ∀ x ∈ countedCodes,
      x.2 = 0 ∧ x.1 ∈ [0x24, 0x28, 0x33, 0x34] ∨ x.2 = 1 ∧ x.1 ∈ [0x02, 0x03, 0x22, 0x25, 0x26, 0x31, 0x32]
        ∨ x.2 = 2 ∧ x.1 ∈ [0x04, 0x12, 0x19, 0x21, 0x35, 0x36] ∨ x.2 = 4 ∧ x.1 ∈ [0x10, 0x14, 0x27]
        ∨ x.2 = 5 ∧ x.1 ∈ [0x01, 0x20] ∨ x.2 = 6 ∧ x.1 = 0x23 ∨ x.2 = 18 ∧ x.1 = 0x17 := by
    decide
  have hgroup := hgroups _ hcode
  dsimp only at hgroup
  rcases hgroup with ⟨rfl, hc⟩ | ⟨rfl, hc⟩ | ⟨rfl, hc⟩ | ⟨rfl, hc⟩ | ⟨rfl, hc⟩ | ⟨rfl, rfl⟩ | ⟨rfl, rfl⟩
  · exact requestFrom_none_of_zero hc h
  · exact requestFrom_none_of_one hc h
  · exact requestFrom_none_of_two hc h
  · exact requestFrom_none_of_four hc h
  · exact requestFrom_none_of_five hc h
  · exact requestFrom_none_of_six h
  · exact requestFrom_none_of_eighteen h

/-- PUT_TENANCY announces its units in the fifth operand byte. -/
theorem requestFrom_none_of_units (h : l.length ≠ 5 + 2 * (l.getD 4 0).toNat) : requestFrom p 0x11 l = none := by
  match l, h with
  | [], _ | [_], _ | [_, _], _ | [_, _, _], _ | [_, _, _, _], _ => rfl
  | t1 :: t0 :: st :: pr :: n :: rest, h =>
    refine if_neg (fun hcount => h ?_)
    simp only [List.length_cons, hcount, List.getD_cons_succ, List.getD_cons_zero]
    omega

/-- PUT_HOLIDAYS announces its days in the first operand byte. -/
theorem requestFrom_none_of_days (h : l.length ≠ 1 + 2 * (l.getD 0 0).toNat) : requestFrom p 0x16 l = none := by
  match l, h with
  | [], _ => rfl
  | n :: rest, h =>
    refine if_neg (fun hcount => h ?_)
    simp only [List.length_cons, hcount, List.getD_cons_zero]
    omega

theorem profileFrom_length {i : Instr} (h : profileFrom l = some i) : l.length = 5 + 5 * (l.getD 1 0).toNat := by
  unfold profileFrom at h
  split at h
  case h_1 profile n rest =>
    split at h
    case h_1 z1 z0 grace hdrop =>
      have hlength := congrArg List.length hdrop
      simp only [List.length_drop, List.length_cons, List.length_nil] at hlength
      simp only [List.length_cons, List.getD_cons_succ, List.getD_cons_zero]
      omega
    case h_2 => cases h
  case h_2 => cases h

theorem carFrom_length {o : CarOperands} (h : carFrom l = some o) : l.length = 7 + (l.getD 2 0).toNat := by
  unfold carFrom at h
  split at h
  case h_1 enabled landings n rest =>
    split at h
    case h_1 home mode passback window hdrop =>
      have hlength := congrArg List.length hdrop
      simp only [List.length_drop, List.length_cons, List.length_nil] at hlength
      simp only [List.length_cons, List.getD_cons_succ, List.getD_cons_zero]
      omega
    case h_2 => cases h
  case h_2 => cases h

/-- PUT_PROFILE announces its windows in the second operand byte. -/
theorem requestFrom_none_of_windows (h : l.length ≠ 5 + 5 * (l.getD 1 0).toNat) : requestFrom p 0x15 l = none := by
  show profileFrom l = none
  cases hread : profileFrom l with
  | none => rfl
  | some i => exact absurd (profileFrom_length hread) h

/-- PUT_CAR announces its zones in the fourth operand byte. -/
theorem requestFrom_none_of_zones (h : l.length ≠ 8 + (l.getD 3 0).toNat) : requestFrom p 0x18 l = none := by
  match l, h with
  | [], _ => rfl
  | c :: rest, h =>
    show (carFrom rest).map (Instr.putCar c.toNat) = none
    cases hread : carFrom rest with
    | none => rfl
    | some o =>
      refine absurd ?_ h
      rw [List.length_cons, carFrom_length hread, List.getD_cons_succ]
      omega

/-- An operand that a presence bit names takes its bytes, and one that it does not name takes none. -/
theorem takeOptional_length {named : Bool} {width : Nat} {x : Option Nat} {rest : List Byte}
    (h : takeOptional named width l = some (x, rest)) : l.length = named.toNat * width + rest.length := by
  unfold takeOptional at h
  cases named with
  | false =>
    cases h
    simp
  | true =>
    split at h
    case isTrue => 
      split at h
      case isTrue hfits =>
        cases h
        simp only [List.length_drop, Bool.toNat_true]
        omega
      case isFalse => cases h
    case isFalse hnamed => exact absurd rfl hnamed

theorem credentialFrom_length {o : CredentialOperands} (h : credentialFrom l = some o) :
    l.length = 7 + credentialFieldLength (l.getD 6 0) := by
  unfold credentialFrom at h
  split at h
  case h_1 i3 i2 i1 i0 kind status presence rest =>
    simp only [Option.bind_eq_bind, Option.bind_eq_some_iff, Prod.exists] at h
    obtain ⟨x1, r1, h1, x2, r2, h2, x3, r3, h3, x4, r4, h4, x5, r5, h5, hend⟩ := h
    have hempty : r5 = [] := by
      by_contra hrest
      simp [hrest] at hend
    have k1 := takeOptional_length h1
    have k2 := takeOptional_length h2
    have k3 := takeOptional_length h3
    have k4 := takeOptional_length h4
    have k5 := takeOptional_length h5
    simp only [hempty, List.length_nil] at k5
    simp only [List.length_cons, List.getD_cons_succ, List.getD_cons_zero, credentialFieldLength]
    omega
  case h_2 => cases h

/-- PUT_CREDENTIAL's presence operand names the fields that follow it. -/
theorem requestFrom_none_of_fields (h : l.length ≠ 7 + credentialFieldLength (l.getD 6 0)) :
    requestFrom p 0x13 l = none := by
  show (credentialFrom l).map Instr.putCredential = none
  cases hread : credentialFrom l with
  | none => rfl
  | some o => exact absurd (credentialFrom_length hread) h

/-- READ_RECORD's kind names the bytes of its key. -/
theorem requestFrom_none_of_key {k n : Nat}
    (hkind : (k, n) ∈ [(0, 2), (1, 2), (2, 4), (3, 2), (4, 1), (5, 0), (6, 1), (7, 1), (8, 0)])
    (hhead : l.head? = some (BitVec.ofNat 8 k)) (h : l.length ≠ 1 + n) : requestFrom p 0x30 l = none := by
  obtain ⟨key, rfl⟩ : ∃ key, l = BitVec.ofNat 8 k :: key := List.head?_eq_some_iff.mp hhead
  have hkey : ∃ r, recordKind? (BitVec.ofNat 8 k).toNat = some r ∧ r.keyLength = n := by
    simp only [List.mem_cons, List.not_mem_nil, or_false, Prod.mk.injEq] at hkind
    rcases hkind with ⟨rfl, rfl⟩ | ⟨rfl, rfl⟩ | ⟨rfl, rfl⟩ | ⟨rfl, rfl⟩ | ⟨rfl, rfl⟩ | ⟨rfl, rfl⟩ | ⟨rfl, rfl⟩ | ⟨rfl, rfl⟩ | ⟨rfl, rfl⟩
    all_goals exact ⟨_, rfl, rfl⟩
  obtain ⟨r, hr, hlength⟩ := hkey
  show recordFrom p (BitVec.ofNat 8 k :: key) = none
  simp only [List.length_cons] at h
  simp only [recordFrom, hr]
  rw [if_neg (by omega)]

end

theorem codePorts_unknown {code : Nat}
    (h : code = 0 ∨ 0x05 ≤ code ∧ code ≤ 0x0F ∨ 0x1A ≤ code ∧ code ≤ 0x1F ∨ 0x29 ≤ code ∧ code ≤ 0x2F ∨ 0x37 ≤ code) :
    codePorts code = none := by
  have hout {lo hi : Nat} (hcode : ¬(lo ≤ code ∧ code ≤ hi)) : inRange code lo hi = false := by
    rwa [Bool.eq_false_iff, Ne, inRange_iff]
  rw [codePorts, hout (by omega), hout (by omega), hout (by omega), hout (by omega)]
  rfl

/-- The codes that a port performs, in or out of the catalogue. -/
def inPortRange (p : Port) (code : Nat) : Prop :=
  match p with | .field => code ≤ 0x04 ∨ 0x30 ≤ code | .office => 0x10 ≤ code

theorem codePorts_mem {p : Port} {code : Nat} (hrange : inPortRange p code) {ports : List Port}
    (hports : codePorts code = some ports) : p ∈ ports := by
  unfold codePorts at hports
  simp only [Bool.or_eq_true, inRange_iff] at hports
  split at hports
  case isTrue h =>
    cases hports
    cases p with
    | office => exact absurd hrange (by simp only [inPortRange]; omega)
    | field => exact List.mem_singleton.mpr rfl
  case isFalse =>
    split at hports
    case isTrue h =>
      cases hports
      cases p with
      | office => exact List.mem_singleton.mpr rfl
      | field => exact absurd hrange (by simp only [inPortRange]; omega)
    case isFalse =>
      split at hports
      case isTrue =>
        cases hports
        simp [Port.eq_office_or_field]
      case isFalse => cases hports

theorem judgeFrame_unknown {p : Port} {code : Nat} {l : List Byte} (hlength : l.length ≤ 60) (hcode : code < 256)
    (hnone : codePorts code = none) : judgeFrame p (frameOf code l) = .refused .unknownRequest := by
  rw [judgeFrame_frameOf p code hlength, BitVec.toNat_ofNat, Nat.mod_eq_of_lt hcode, judgeRequest, hnone]

theorem judgeFrame_miscounted {p : Port} {code : Nat} {l : List Byte} (hlength : l.length ≤ 60)
    (hrange : inPortRange p code) (hknown : codePorts code ≠ none) (hnone : requestFrom p code l = none) :
    judgeFrame p (frameOf code l) = .refused .badLength := by
  obtain ⟨ports, hports⟩ := Option.ne_none_iff_exists'.mp hknown
  rw [judgeFrame_frameOf p code hlength, BitVec.toNat_ofNat, Nat.mod_eq_of_lt (codePorts_lt hports),
    judgeRequest_miscounted hports (codePorts_mem hrange hports) hnone]

/-- A bad check byte raises the port's own CHECK (R173). -/
theorem exec_writeFrame_check {s : State} {p : Port} {bytes : List Byte} (hack : s.acknowledges p = true)
    (hjudge : judgeFrame p bytes = .refused .check) :
    exec (.writeFrame p bytes) s =
      .next (s.modPort p (fun q => { q.answered ⟨.check, []⟩ with flags := q.flags ||| 0x0400 })).drive := by
  have hexec : exec (.writeFrame p bytes) s = execWriteFrame p bytes s := rfl
  rw [hexec, execWriteFrame, if_pos hack, hjudge]
  cases p <;> rfl

theorem exec_writeFrame_empty {s : State} {p : Port} (hack : s.acknowledges p = true) :
    exec (.writeFrame p []) s =
      .next (s.modPort p (fun q => { q with frame := .idle, buffer := [], timer := none })).drive := by
  have hexec : exec (.writeFrame p []) s = execWriteFrame p [] s := rfl
  rw [hexec, execWriteFrame, if_pos hack]
  rfl

/-- Settles O16: each refusal from the step of R173 that fails first. -/
theorem framesRefused : Obligations.FramesRefused := by
  refine ⟨fun i f s hwf hframe => ?_, fun s p hack => ⟨exec_writeFrame_empty hack, fun bytes hsome h => ?_,
    fun code n rest h _ _ => ?_, fun code n rest hcount hlength hsum => ?_⟩, fun s p code l hack hcode hlength =>
      ⟨fun h => ?_, fun hrange => ?_⟩⟩
  case refine_1 =>
    obtain ⟨code, l, hbytes, rfl⟩ := requestFrame_eq hframe
    have hlength := requestBytes_length hwf hbytes
    simp only [hbytes, Option.map_some, Option.getD_some]
    refine ⟨fun _ hports hack => ?_, fun _ hports hack => ?_⟩
    · exact exec_writeFrame_refused hack (judgeFrame_foreign hlength hports (by decide)) (by decide)
    · exact exec_writeFrame_refused hack (judgeFrame_foreign hlength hports (by decide)) (by decide)
  case refine_2 => exact exec_writeFrame_refused hack (judgeFrame_of_length hsome h) (by decide)
  case refine_3 => exact exec_writeFrame_refused hack (judgeFrame_of_count h) (by decide)
  case refine_4 => exact exec_writeFrame_check hack (judgeFrame_of_check hcount hlength hsum)
  case refine_5 => exact exec_writeFrame_refused hack (judgeFrame_unknown hlength hcode (codePorts_unknown h)) (by decide)
  case refine_6 =>
    have hrefused (hknown : codePorts code ≠ none) (hnone : requestFrom p code l = none) :
        FrameRefused s p (frameOf code l) .badLength :=
      exec_writeFrame_refused hack (judgeFrame_miscounted hlength hrange hknown hnone) (by decide)
    refine ⟨fun n hmem h => hrefused ?_ (requestFrom_none_of_count hmem h), fun hc h => ?_, fun hc h => ?_, fun hc h => ?_,
      fun hc h => ?_, fun hc h => ?_, fun hc h => ?_, fun k n hmem hc hhead h => ?_⟩
    case refine_1 =>
      have hcodes : ∀ x ∈ countedCodes, codePorts x.1 ≠ none := by decide
      exact hcodes _ hmem
    all_goals subst hc
    case refine_2 => exact hrefused (by decide) (requestFrom_none_of_units h)
    case refine_3 => exact hrefused (by decide) (requestFrom_none_of_fields h)
    case refine_4 => exact hrefused (by decide) (requestFrom_none_of_windows h)
    case refine_5 => exact hrefused (by decide) (requestFrom_none_of_days h)
    case refine_6 => exact hrefused (by decide) (requestFrom_none_of_zones h)
    case refine_7 => exact hrefused (by decide) (by rw [h]; rfl)
    case refine_8 => exact hrefused (by decide) (requestFrom_none_of_key hmem hhead h)

end Sys2Proof.Machine

/-! PROOFS. FramesAndReports: the life of a frame, and what each reading request reports (R25, R78, R107, R133, R146, R168,
R169, R171 to R175). -/

namespace Sys2Proof.Machine

/-! ## Read frames (R175) -/

/-- The master gets as many bytes as it clocks out. -/
theorem PortState.clockOut_length (q : PortState) (count : Nat) : (q.clockOut count).length = count := by
  simp only [PortState.clockOut, List.length_append, List.length_take, List.length_replicate]
  omega

theorem Reply.frame_eq (r : Reply) :
    r.frame = [BitVec.ofNat 8 r.result.code, BitVec.ofNat 8 r.bytes.length] ++ r.bytes
      ++ [0 - (BitVec.ofNat 8 r.result.code + BitVec.ofNat 8 r.bytes.length + sumOf r.bytes)] := by
  simp [Reply.frame, withCheck, sumOf, BitVec.add_assoc]

theorem Reply.frame_length (r : Reply) : r.frame.length = r.bytes.length + 3 := by
  simp [Reply.frame_eq]

/-- Up to the check byte a read sends the frame of the held reply. -/
theorem PortState.clockOut_of_reply {q : PortState} {r : Reply} {count : Nat} (hreply : q.reply = some r)
    (hcount : count ≤ r.bytes.length + 3) : q.clockOut count = r.frame.take count := by
  have hnone : count - r.frame.length = 0 := by
    rw [Reply.frame_length]
    omega
  simp [PortState.clockOut, PortState.readable, hreply, hnone]

theorem exec_readFrame {s : State} {p : Port} (hack : s.acknowledges p = true) (count : Nat) (ended : Bool) :
    exec (.readFrame p count ended) s = done (if ended then s.endRead p count else s.holdRead p count) := by
  have hexec : exec (.readFrame p count ended) s = execReadFrame p count ended s := rfl
  rw [hexec, execReadFrame, if_pos hack]

/-- The port after a read frame that the master ended. -/
theorem State.endRead_port (s : State) (p : Port) (count : Nat) :
    (s.endRead p count).drive.port p =
      { s.port p with sent := (s.port p).clockOut count, frame := .idle, buffer := [], timer := none } := by
  cases p <;> rfl

theorem State.endRead_frame (s : State) (p : Port) (count : Nat) :
    (s.endRead p count).drive.roster = s.roster ∧ (s.endRead p count).drive.portals = s.portals
      ∧ (s.endRead p count).drive.cars = s.cars ∧ (s.endRead p count).drive.store = s.store
      ∧ (s.endRead p count).drive.journal = s.journal := by
  simp [State.endRead]

/-- The port after a read frame that goes on. -/
theorem State.holdRead_port (s : State) (p : Port) (count : Nat) :
    (s.holdRead p count).drive.port p =
      { s.port p with
        sent := (s.port p).clockOut count, frame := .read, buffer := [], timer := some (s.clock.tick + 3) } := by
  cases p <;> rfl

/-- Settles O17: a read's port by what it clocks out, and the frames that open, expire and end. -/
theorem framesOpenAndEnd : Obligations.FramesOpenAndEnd := by
  refine ⟨fun s p count hack => ⟨_, exec_readFrame hack count true, ?_⟩, fun s p => ⟨fun hack => ?_,
    fun count hack => ⟨_, exec_readFrame hack count false, ?_⟩, fun hrun htimer => ?_, fun hdiscarding => ?_⟩⟩
  case refine_1 =>
    simp only [if_true]
    rw [State.endRead_port]
    refine ⟨PortState.clockOut_length _ _, rfl, rfl, rfl, fun r hreply _ hcount => ?_, fun hnone hcount => ?_,
      State.endRead_frame s p count⟩
    · exact (PortState.clockOut_of_reply hreply hcount).trans (by rw [Reply.frame_eq])
    · simp only [PortState.clockOut, PortState.readable, hnone, hcount]
      rfl
  case refine_2 =>
    refine congrArg done ?_
    simp only [State.startFrame, if_true, hack]
    rfl
  case refine_3 =>
    simp only [Bool.false_eq_true, if_false]
    rw [State.holdRead_port]
    exact ⟨rfl, rfl, rfl, rfl⟩
  case refine_4 =>
    have hdue : s.frameDue p = true := by simp [State.frameDue, State.due, hrun, htimer]
    refine (congrArg done (timed_due hdue)).trans ?_
    cases p <;> rfl
  case refine_5 => exact congrArg done (if_pos hdiscarding)

/-! ## READ_RECORD (R25) -/

theorem readRecord_of_range {kind key : Nat} {k : RecordKind} (hkind : recordKind? kind = some k)
    (hrange : k.keyInRange key = true) (p : Port) (s : State) : readRecord p kind key s = (s, s.recordReply p k key) := by
  simp [readRecord, hkind, hrange]

theorem State.recordReply_withheld {p : Port} {k : RecordKind} {n : Nat} (h : withheldOn p k = some n) (s : State)
    (key : Nat) : s.recordReply p k key = Reply.done (List.replicate n 0xFF) := by
  simp [State.recordReply, h]

/-- On the Field Port a withheld kind is answered with as many 0xFF bytes as its longest reply has. -/
theorem exec_readRecord_withheld {s : State} {kind key n : Nat} {k : RecordKind} (hack : s.acknowledges .field = true)
    (hkind : recordKind? kind = some k) (hrange : k.keyInRange key = true) (hwithheld : k.withheld = some n) :
    exec (.readRecord .field kind key) s =
      .next (State.drive { s with field := s.field.answered ⟨.ok, List.replicate n 0xFF⟩ }) :=
  done_request_field_reads hack ((readRecord_of_range hkind hrange .field _).trans
    (by rw [State.recordReply_withheld (p := .field) hwithheld]; rfl))

theorem State.recordReply_unit (s : State) (key : Nat) :
    s.recordReply .office .unit key =
      match s.store.mirror.units.find? key with
      | some u => Reply.done (UnitRec.bytes key u)
      | none => Reply.refusal .notFound := by
  simp only [State.recordReply, withheldOn, Mirror.recordBytes]
  cases s.store.mirror.units.find? key <;> rfl

theorem UnitRec.bytes_eq (n : Nat) (u : UnitRec) :
    u.bytes n =
      byte1 (if u.tenancy.isSome then 1 else 0) ++ byte2 n ++ byte1 u.zone ++ byte1 u.state.code
        ++ byte2 (u.tenancy.getD 0xFFFF) := by
  unfold UnitRec.bytes
  cases u.tenancy <;> rfl

/-! ## The other reads -/

theorem verdict_code (v : Verdict) : v.code = if v = .inWindow then 0 else 1 := by cases v <;> rfl

/-- A SECURE portal that keeps nothing of a cycle reports zeros for it. -/
theorem State.portalBytes_secure {s : State} {n : Fin 16} (hclosed : CyclesClosed s) (hleaf : s.portals[n].leaf = .secure) :
    s.portalBytes n =
      ([0] : List Byte) ++ byte1 s.portals[n].mode.code
        ++ byte1 (match s.portals[n].hold with | some m => m.code | none => 0xFF)
        ++ byte1 (if s.portals[n].verdict = .inWindow then 0 else 1) ++ [0, 0, 0, 1]
        ++ byte1 s.portals[n].position.code ++ [0, 0, 0, 0] := by
  obtain ⟨hgrants, hpassages, htailgate, hmoves, hunlock, _⟩ := hclosed n (.inl hleaf)
  have hhold : optByte1 (s.portals[n].hold.map Mode.code)
      = byte1 (match s.portals[n].hold with | some m => m.code | none => 0xFF) := by
    cases s.portals[n].hold <;> rfl
  unfold State.portalBytes
  dsimp only
  rw [hgrants, hpassages, htailgate, hmoves, hunlock, hleaf, hhold, verdict_code]
  simp [LeafState.code, byte1, byte2, yesNoCode, State.unlockLeft]

theorem State.pendingArrivals_none {s : State} (h : ∀ q : Fin 16, s.portals[q].moves = []) : s.pendingArrivals = 0 := by
  unfold State.pendingArrivals
  simp only [h]
  rfl

/-- Every item of READ_STATUS where nothing is referred and no move is pending. -/
theorem State.statusBytes_quiet {s : State} (hqueue : s.referrals = []) (hmoves : ∀ q : Fin 16, s.portals[q].moves = []) :
    s.statusBytes =
      byte1 (if s.store.phase = .programming then 1 else 0)
        ++ byte1 (if s.pins.straps.storeWp = true then 0 else 1) ++ byte2 s.store.marks.length
        ++ byte1 (if s.clock.valid = true then 0 else 1) ++ byte2 s.clock.day ++ byte2 s.clock.minute
        ++ byte1 s.clock.second ++ byte1 (if s.fire.active = true then 1 else 0)
        ++ byte1 (if s.fire.latch = true then 1 else 0) ++ byte1 (if s.alarming = true then 0 else 1)
        ++ ([0, 1, 2, 3] : List (Fin 4)).flatMap (fun g =>
            byte1 (if s.pulling g = true then 0 else 1) ++ byte1 (if s.lineHigh g = true then 0 else 1))
        ++ byte2 s.journal.length ++ byte2 s.roster.length ++ [0, 0, 0] := by
  have hphase : storeCode s.store.phase = if s.store.phase = .programming then 1 else 0 := by
    cases s.store.phase <;> rfl
  have hbit (b : Bool) : b.toNat = if b = true then 1 else 0 := by cases b <;> rfl
  unfold State.statusBytes
  rw [hphase, hbit, hbit, State.pendingArrivals_none hmoves]
  simp only [State.pendingReferrals, State.resolvedCount, hqueue, List.filter_nil, List.length_nil, List.append_assoc]
  rfl

/-- The session remaining while a session timer runs: 1 to 12,000 ticks, those to its expiry while that lies ahead. -/
theorem State.sessionLeft_range {s : State} {e : Nat} (h : e ≤ s.clock.tick + 12000) :
    1 ≤ s.sessionLeft (some e) ∧ s.sessionLeft (some e) ≤ 12000
      ∧ (s.clock.tick < e → s.sessionLeft (some e) = e - s.clock.tick) := by
  obtain ⟨hlow, hhigh⟩ := ticksLeft_range (most := 12000) (by decide) h
  exact ⟨hlow, hhigh, ticksLeft_ahead⟩

theorem car?_val (c : Fin 4) : car? c.val = some c := dif_pos c.isLt

theorem exec_readCar {s : State} {p : Port} (hack : s.acknowledges p = true) (c : Fin 4) :
    exec (.readCar p c.val) s = .next (s.modPort p (fun q => q.answered ⟨.ok, s.carBytes c⟩)).drive := by
  refine done_request_answers hack ?_
  simp only [readCar, car?_val]
  cases p <;> rfl

theorem exec_readPortal {s : State} {p : Port} (hack : s.acknowledges p = true) (n : Fin 16) :
    exec (.readPortal p n.val) s = .next (s.modPort p (fun q => q.answered ⟨.ok, s.portalBytes n⟩)).drive := by
  refine done_request_answers hack ?_
  simp only [readPortal, portal?_val]
  cases p <;> rfl

theorem optByte1_eq (x : Option Nat) : optByte1 x = byte1 (x.getD 0xFF) := rfl

/-- The reply of READ_ROSTER at a start beyond the last entry. -/
theorem readRoster_beyond {s : State} {start : Nat} (hend : s.roster.length ≤ start) (hrange : start ≤ 255) :
    readRoster start s = (s, ⟨.ok, byte2 s.roster.length ++ byte1 start ++ [0]⟩) := by
  simp [readRoster, hrange, List.drop_eq_nil_of_le hend, Reply.done, byte1]

/-- Settles O19: each read's reply from what it reads. -/
theorem readsReport : Obligations.ReadsReport := by
  refine ⟨fun s key => ⟨fun hack => ⟨fun h => ?_, fun h => ?_, fun hlow hhigh => ?_, fun h => ?_, fun h => ?_, ?_⟩,
      fun hack hkey => ⟨fun hnone => ?_, fun u hunit => ?_⟩⟩,
    fun s => ⟨fun p hack => ?_, fun p n hack hclosed hleaf => ?_, fun p c hack htimer hempty => ?_,
      fun p c e hack htimer hbound => ?_, fun start hack hend hrange => ?_, fun hack hqueue => ?_,
      fun p hack hqueue hmoves => ?_⟩⟩
  -- READ_RECORD
  case refine_1 => exact exec_readRecord_withheld hack (k := .unit) rfl (by simpa [RecordKind.keyInRange] using h) rfl
  case refine_2 => exact exec_readRecord_withheld hack (k := .tenancy) rfl (by simpa [RecordKind.keyInRange] using h) rfl
  case refine_3 =>
    exact exec_readRecord_withheld hack (k := .credential) rfl (inRange_iff.mpr ⟨hlow, hhigh⟩) rfl
  case refine_4 =>
    exact exec_readRecord_withheld hack (k := .credentialAt) rfl (by simpa [RecordKind.keyInRange] using h) rfl
  case refine_5 => exact exec_readRecord_withheld hack (k := .profile) rfl (by simpa [RecordKind.keyInRange] using h) rfl
  case refine_6 => exact exec_readRecord_withheld hack (k := .holidays) rfl rfl rfl
  case refine_7 =>
    refine done_request_office_reads hack
      ((readRecord_of_range (k := .unit) rfl (by simpa [RecordKind.keyInRange] using hkey) .office _).trans ?_)
    simp [State.recordReply_unit, hnone, Reply.refusal]
  case refine_8 =>
    refine done_request_office_reads hack
      ((readRecord_of_range (k := .unit) rfl (by simpa [RecordKind.keyInRange] using hkey) .office _).trans ?_)
    simp [State.recordReply_unit, hunit, Reply.done, UnitRec.bytes_eq]
  -- READ_EVENTS, READ_PORTAL, READ_CAR
  case refine_9 =>
    refine (done_request_answers (r := ⟨.ok, byte2 (s.port p).flags.toNat ++ byte2 (s.port p).mask.toNat⟩) hack ?_).trans ?_
    all_goals cases p <;> rfl
  case refine_10 =>
    have hread := exec_readPortal hack n
    rw [State.portalBytes_secure hclosed hleaf] at hread
    exact hread
  case refine_11 =>
    rw [exec_readCar hack, State.carBytes]
    simp only [htimer, hempty, State.sessionLeft, optByte1_eq, yesNoCode, List.flatMap_nil, List.append_nil, List.append_assoc]
    rfl
  case refine_12 =>
    obtain ⟨hlow, hhigh, hahead⟩ := State.sessionLeft_range hbound
    refine ⟨_, hlow, hhigh, hahead, ?_⟩
    rw [exec_readCar hack, State.carBytes, htimer]
    rfl
  -- READ_ROSTER, LIST_REFERRALS, READ_STATUS
  case refine_13 =>
    exact done_request_office_reads hack (readRoster_beyond (s := s.endFrame .office) hend hrange)
  case refine_14 =>
    refine done_request_office_reads hack ?_
    simp [listReferrals, State.pendingReferrals, State.resolvedCount, hqueue, Reply.done, byte1]
  case refine_15 =>
    rw [← State.statusBytes_quiet hqueue hmoves]
    refine done_request_answers hack ?_
    cases p <;> rfl

end Sys2Proof.Machine

/-! PROOFS. PutChecks: what each check of a put or drop lets through, and with these the refusals and the slots of the puts
and drops (R10, R12 to R21). -/

namespace Sys2Proof.Machine

/-! ## The event of a put or drop by its check -/

section
variable {check : State → Except ResultCode (List SlotWrite)} {s : State} {c : Instr}

theorem done_takePut_protected (hack : s.acknowledges .office = true) (hwp : s.pins.straps.storeWp = true) :
    done (takePut check s) = .next (State.drive { s with office := s.office.answered ⟨.writeProtected, []⟩ }) := by
  rw [takePut_protected hack hwp]
  rfl

/-- A put taken while the Store programs a write-back waits for it, with the Office Port busy. -/
theorem done_takePut_waiting {writes : List SlotWrite} {j : Job} (hack : s.acknowledges .office = true)
    (hwp : s.pins.straps.storeWp = false) (hjob : s.store.job = some j) (hcheck : check s = .ok writes) :
    done (takePut check s) =
      .next (State.drive
        { s with
          store := { s.store with waiting := some writes }
          office := { s.office with frame := .idle, buffer := [], timer := none, busy := true } }) := by
  have htake : s.store.takeRequest writes = { s.store with waiting := some writes } := by
    simp [Store.takeRequest, hjob]
  rw [takePut_taken hack hwp hcheck, htake]
  rfl

end

/-! ## Ranges and distinct numbers -/

theorem not_inRange_iff {n lo hi : Nat} : inRange n lo hi = false ↔ n < lo ∨ hi < n := by
  rw [Bool.eq_false_iff, Ne, inRange_iff]
  omega

theorem distinct_iff {l : List Nat} : distinct l = true ↔ l.Nodup := by
  induction l with
  | nil => simp [distinct]
  | cons n l ih => simp [distinct, ih]

theorem optInRange_some {x hi : Nat} : optInRange (some x) hi = true ↔ x ≤ hi := by simp [optInRange]

/-! ## Named values by their positions -/

theorem unitState?_lt {k : Nat} {st : UnitState} (h : unitState? k = some st) : k ≤ 4 ∧ (st.assigned = true ↔ 1 ≤ k ∧ k ≤ 3) := by
  unfold unitState? at h
  split at h <;> cases h <;> simp [UnitState.assigned]

theorem tenancyState?_lt {k : Nat} {st : TenancyState} (h : tenancyState? k = some st) : k ≤ 3 := by
  unfold tenancyState? at h
  split at h <;> cases h <;> omega

theorem tenancyState?_of_le {k : Nat} (h : k ≤ 3) : ∃ st, tenancyState? k = some st := by
  interval_cases k <;> exact ⟨_, rfl⟩

theorem credKind?_code {n : Nat} {k : CredKind} (h : credKind? n = some k) : n = k.code := by
  unfold credKind? at h
  split at h <;> cases h <;> rfl

theorem credStatus?_lt {n : Nat} {k : CredStatus} (h : credStatus? n = some k) : n ≤ 1 := by
  unfold credStatus? at h
  split at h <;> cases h <;> omega

theorem yesNo?_lt {n : Nat} {b : Bool} (h : yesNo? n = some b) : n ≤ 1 := by
  unfold yesNo? at h
  split at h <;> cases h <;> omega

theorem baseMode?_lt {n : Nat} {m : BaseMode} (h : baseMode? n = some m) : n ≤ 2 := by
  unfold baseMode? at h
  split at h <;> cases h <;> omega

theorem unlockBase?_lt {n : Nat} {m : UnlockBase} (h : unlockBase? n = some m) : n ≤ 1 := by
  unfold unlockBase? at h
  split at h <;> cases h <;> omega

theorem passback?_lt {n : Nat} {m : Passback} (h : passback? n = some m) : n ≤ 2 := by
  unfold passback? at h
  split at h <;> cases h <;> omega

theorem polarity?_lt {n : Nat} {m : Polarity} (h : polarity? n = some m) : n ≤ 1 := by
  unfold polarity? at h
  split at h <;> cases h <;> omega

theorem fallback?_lt {n : Nat} {m : Fallback} (h : fallback? n = some m) : n ≤ 1 := by
  unfold fallback? at h
  split at h <;> cases h <;> omega

theorem carMode?_lt {n : Nat} {m : CarMode} (h : carMode? n = some m) : n ≤ 1 := by
  unfold carMode? at h
  split at h <;> cases h <;> omega

theorem freeProfile?_range {n : Nat} {x : Option Nat} (h : freeProfile? n = some x) : n = 0xFF ∨ n ≤ 14 := by
  unfold freeProfile? absentByte at h
  split at h
  case isTrue heq => exact .inl heq
  case isFalse =>
    split at h
    case isTrue hle => exact .inr hle
    case isFalse => cases h

theorem car?_of_outside {n : Nat} (hout : 3 < n) : car? n = none := dif_neg (by omega)

theorem group?_range {n : Nat} {x : Option (Fin 4)} (h : group? n = some x) : n = 0xFF ∨ n ≤ 3 := by
  unfold group? absentByte at h
  split at h
  case isTrue heq => exact .inl heq
  case isFalse =>
    by_contra hout
    rw [car?_of_outside (by omega)] at h
    cases h

/-! ## Whole records from operands (R16, R18, R20, R21) -/

/-- What the operands of PUT_CREDENTIAL meet where they give a record. -/
theorem credRecOf_some {o : CredentialOperands} {r : CredRec} (h : credRecOf o = some r) :
    ∃ k, o.kind = k.code ∧ o.status ≤ 1 ∧ idInRange o.id = true ∧ fieldsFit k o = true ∧ optInRange o.tenancy 1023 = true
      ∧ optInRange o.expiry 65535 = true ∧ optInRange o.budget 255 = true ∧ optInRange o.staffProfile 15 = true
      ∧ o.staffZones.all (fun z => !z.getLsbD 0) = true := by
  simp only [credRecOf, Option.bind_eq_bind, Option.bind_eq_some_iff] at h
  obtain ⟨k, hkind, st, hstatus, hrest⟩ := h
  split at hrest
  case isFalse => cases hrest
  case isTrue hall =>
    simp only [Bool.and_eq_true] at hall
    obtain ⟨⟨⟨⟨⟨⟨⟨hid, _⟩, hfields⟩, htenancy⟩, hexpiry⟩, hbudget⟩, hprofile⟩, hzones⟩ := hall
    exact ⟨k, credKind?_code hkind, credStatus?_lt hstatus, hid, hfields, htenancy, hexpiry, hbudget, hprofile, hzones⟩

/-- What the fields of PUT_PORTAL meet where they give a record. -/
theorem portalRecOf_some {o : PortalOperands} {r : PortalRec} (h : portalRecOf o = some r) :
    o.enabled ≤ 1 ∧ o.outer ≤ 15 ∧ (1 ≤ o.inner ∧ o.inner ≤ 15) ∧ o.inner ≠ o.outer ∧ o.baseMode ≤ 2
      ∧ (o.freeProfile = 0xFF ∨ o.freeProfile ≤ 14) ∧ (1 ≤ o.unlockCount ∧ o.unlockCount ≤ 255) ∧ o.unlockBase ≤ 1
      ∧ o.heldLimit ≤ 255 ∧ o.passback ≤ 2 ∧ o.leafSensor ≤ 1 ∧ o.beam ≤ 1 ∧ o.exitButton ≤ 1 ∧ o.egress ≤ 1
      ∧ o.polarity ≤ 1 ∧ (o.group = 0xFF ∨ o.group ≤ 3) ∧ o.fallback ≤ 1 ∧ (5 ≤ o.timeout ∧ o.timeout ≤ 60) := by
  simp only [portalRecOf, Option.bind_eq_bind, Option.bind_eq_some_iff] at h
  obtain ⟨_, henabled, _, hbase, _, hfree, _, hunlock, _, hpassback, _, hsensor, _, hbeam, _, hexit, _, hegress, _,
    hpolarity, _, hgroup, _, hfallback, hrest⟩ := h
  split at hrest
  case isFalse => cases hrest
  case isTrue hall =>
    simp only [Bool.and_eq_true, inRange_iff, bne_iff_ne] at hall
    obtain ⟨⟨⟨⟨⟨houter, hinner⟩, hne⟩, hcount⟩, hheld⟩, htimeout⟩ := hall
    exact ⟨yesNo?_lt henabled, houter.2, hinner, hne, baseMode?_lt hbase, freeProfile?_range hfree, hcount,
      unlockBase?_lt hunlock, hheld.2, passback?_lt hpassback, yesNo?_lt hsensor, yesNo?_lt hbeam, yesNo?_lt hexit,
      yesNo?_lt hegress, polarity?_lt hpolarity, group?_range hgroup, fallback?_lt hfallback, htimeout⟩

/-- What the fields of PUT_CAR meet where they give a record. -/
theorem carRecOf_some {o : CarOperands} {r : CarRec} (h : carRecOf o = some r) :
    o.enabled ≤ 1 ∧ (1 ≤ o.landings ∧ o.landings ≤ 16) ∧ o.zones.length = o.landings
      ∧ (∀ z ∈ o.zones, 1 ≤ z ∧ z ≤ 15) ∧ o.home < o.landings ∧ o.mode ≤ 1 ∧ o.passback ≤ 2
      ∧ (5 ≤ o.window ∧ o.window ≤ 120) := by
  simp only [carRecOf, Option.bind_eq_bind, Option.bind_eq_some_iff] at h
  obtain ⟨_, henabled, _, hmode, _, hpassback, hrest⟩ := h
  split at hrest
  case isFalse => cases hrest
  case isTrue hall =>
    simp only [Bool.and_eq_true, inRange_iff, beq_iff_eq, List.all_eq_true, decide_eq_true_eq] at hall
    obtain ⟨⟨⟨⟨hlandings, hlength⟩, hzones⟩, hhome⟩, hwindow⟩ := hall
    exact ⟨yesNo?_lt henabled, hlandings, hlength, hzones, hhome, carMode?_lt hmode, passback?_lt hpassback, hwindow⟩

theorem windowFits_iff {w : WindowOperand} :
    windowFits w = true ↔
      w.classes ≠ 0 ∧ w.openMinute ≤ 1439 ∧ w.closeMinute ≤ 1440 ∧ w.openMinute < w.closeMinute := by
  simp only [windowFits, Bool.and_eq_true, bne_iff_ne, decide_eq_true_eq, inRange_iff, and_assoc]
  exact and_congr_right fun _ => by omega

theorem profileRecOf_iff {ws : List WindowOperand} {z : Set16} {g : Nat} {r : ProfileRec} :
    profileRecOf ws z g = some r ↔
      (ws.length ≤ 6 ∧ (∀ w ∈ ws, windowFits w = true) ∧ z.getLsbD 0 = false ∧ g ≤ 240)
        ∧ { windows := ws.map windowOf, common := z, grace := g } = r := by
  simp only [profileRecOf, Option.ite_none_right_eq_some, Bool.and_eq_true, decide_eq_true_eq, List.all_eq_true,
    Bool.not_eq_true', Option.some.injEq, and_assoc]

/-! ## The checks (R12 to R21) -/

/-- PUT_UNIT lets through a state change that R12 allows, with operands in range. -/
theorem checkPutUnit_ok {n z k : Nat} {st : UnitState} {s : State} (hstate : unitState? k = some st) (hn : n ≤ 4095)
    (hz1 : 1 ≤ z) (hz15 : z ≤ 15) (hchange : unitChangeAllowed (s.store.mirror.units.find? n) st = true) :
    checkPutUnit n z k s =
      .ok [.unit n { zone := z, state := st, tenancy := (s.store.mirror.units.find? n).bind (·.tenancy) }] := by
  simp [checkPutUnit, hstate, inRange_iff.mpr ⟨Nat.zero_le n, hn⟩, inRange_iff.mpr ⟨hz1, hz15⟩, hchange]

theorem checkPutUnit_refused {n z k : Nat} {s : State}
    (h : ∀ st, unitState? k = some st → n ≤ 4095 → 1 ≤ z → z ≤ 15 →
      unitChangeAllowed (s.store.mirror.units.find? n) st ≠ true) : checkPutUnit n z k s = .error .badValue := by
  unfold checkPutUnit
  dsimp only
  split
  case h_1 => rfl
  case h_2 st hst =>
    refine if_neg (fun hall => ?_)
    simp only [Bool.and_eq_true, inRange_iff] at hall
    exact h st hst hall.1.1.2 hall.1.2.1 hall.1.2.2 hall.2

/-- PUT_UNIT refuses to assign an absent or unassigned unit. -/
theorem checkPutUnit_assigning {n z k : Nat} {s : State} (hk : k = 1 ∨ k = 2 ∨ k = 3)
    (h : ∀ u, s.store.mirror.units.find? n = some u → u.state.assigned = false) :
    checkPutUnit n z k s = .error .badValue := by
  refine checkPutUnit_refused (fun st hst _ _ _ => ?_)
  have hassigned : st.assigned = true := (unitState?_lt hst).2.mpr (by omega)
  cases hu : s.store.mirror.units.find? n with
  | none => simp [unitChangeAllowed, hassigned]
  | some u => simp [unitChangeAllowed, hassigned, h u hu]

/-- PUT_UNIT refuses to unassign an assigned unit. -/
theorem checkPutUnit_unassigning {n z k : Nat} {s : State} {u : UnitRec} (hk : k = 0 ∨ k = 4)
    (hu : s.store.mirror.units.find? n = some u) (h : u.state.assigned = true) :
    checkPutUnit n z k s = .error .badValue := by
  refine checkPutUnit_refused (fun st hst _ _ _ => ?_)
  have hassigned : st.assigned = false := by
    rw [Bool.eq_false_iff, Ne, (unitState?_lt hst).2]
    omega
  simp [unitChangeAllowed, hu, h, hassigned]

/-- The operands of PUT_TENANCY are in range, with no unit listed twice. -/
def TenancyOperandsFit (n pr : Nat) (us : List Nat) : Prop :=
  n ≤ 1023 ∧ pr ≤ 15 ∧ (1 ≤ us.length ∧ us.length ≤ 8) ∧ (∀ u ∈ us, u ≤ 4095) ∧ us.Nodup

theorem tenancyOperandsFit_iff {n pr : Nat} {us : List Nat} :
    (inRange n 0 1023 && inRange pr 0 15 && inRange us.length 1 8 && us.all (fun u => inRange u 0 4095) && distinct us)
        = true ↔ TenancyOperandsFit n pr us := by
  simp only [TenancyOperandsFit, Bool.and_eq_true, inRange_iff, List.all_eq_true, distinct_iff, Nat.zero_le, true_and,
    and_assoc]

theorem checkPutTenancy_refused {n k pr : Nat} {us : List Nat} {s : State}
    (h : 3 < k ∨ ¬TenancyOperandsFit n pr us) : checkPutTenancy n k pr us s = .error .badValue := by
  unfold checkPutTenancy
  dsimp only
  split
  case h_1 => rfl
  case h_2 st hst =>
    have hfit : ¬TenancyOperandsFit n pr us := h.resolve_left (by have := tenancyState?_lt hst; omega)
    rw [if_pos]
    rw [Bool.not_eq_true', Bool.eq_false_iff, Ne, tenancyOperandsFit_iff]
    exact hfit

section
variable {n k pr : Nat} {us : List Nat} {st : TenancyState} {s : State}

/-- Past its operands, PUT_TENANCY is judged by the units that it lists. -/
theorem checkPutTenancy_of_fit (hstate : tenancyState? k = some st) (hfit : TenancyOperandsFit n pr us) :
    checkPutTenancy n k pr us s =
      if us.any (fun u => (s.store.mirror.units.find? u).isNone) then .error .notFound
      else if us.any (fun u => !(s.store.mirror.units.find? u).any (unitFreeFor n)) then .error .conflict
      else .ok (putTenancyWrites s.store.mirror n { state := st, profile := pr, units := sortRising us }) := by
  simp only [checkPutTenancy, hstate, tenancyOperandsFit_iff.mpr hfit, Bool.not_true, Bool.false_eq_true, if_false]

theorem checkPutTenancy_notFound (hstate : tenancyState? k = some st) (hfit : TenancyOperandsFit n pr us)
    (h : ∃ u ∈ us, s.store.mirror.units.find? u = none) : checkPutTenancy n k pr us s = .error .notFound := by
  rw [checkPutTenancy_of_fit hstate hfit, if_pos]
  simpa using h

theorem checkPutTenancy_conflict (hstate : tenancyState? k = some st) (hfit : TenancyOperandsFit n pr us)
    (hpresent : ∀ u ∈ us, (s.store.mirror.units.find? u).isSome = true)
    (h : ∃ u ∈ us, ∃ r, s.store.mirror.units.find? u = some r ∧ unitFreeFor n r = false) :
    checkPutTenancy n k pr us s = .error .conflict := by
  rw [checkPutTenancy_of_fit hstate hfit, if_neg, if_pos]
  · obtain ⟨u, hu, r, hr, hfree⟩ := h
    exact List.any_eq_true.mpr ⟨u, hu, by simp [hr, hfree]⟩
  · rw [List.any_eq_true]
    rintro ⟨u, hu, hnone⟩
    simp only [Option.isNone_iff_eq_none] at hnone
    simpa [hnone] using hpresent u hu

theorem checkPutTenancy_ok (hstate : tenancyState? k = some st) (hfit : TenancyOperandsFit n pr us)
    (h : ∀ u ∈ us, ∃ r, s.store.mirror.units.find? u = some r ∧ unitFreeFor n r = true) :
    checkPutTenancy n k pr us s =
      .ok (putTenancyWrites s.store.mirror n { state := st, profile := pr, units := sortRising us }) := by
  rw [checkPutTenancy_of_fit hstate hfit, if_neg, if_neg]
  all_goals
    rw [List.any_eq_true]
    rintro ⟨u, hu, hbad⟩
    obtain ⟨r, hr, hfree⟩ := h u hu
    simp [hr, hfree] at hbad

end

/-- A unit that is in MAINTENANCE, or held by another tenancy, is not free for a tenancy (R13). -/
theorem unitFreeFor_false {n : Nat} {r : UnitRec}
    (h : r.state = .maintenance ∨ (r.state ≠ .vacant ∧ r.tenancy ≠ some n)) : unitFreeFor n r = false := by
  rcases h with h | ⟨hstate, htenancy⟩
  · simp [unitFreeFor, h, UnitState.assigned]
  · simp [unitFreeFor, hstate, htenancy]

section
variable {n : Nat} {s : State}

theorem checkDropTenancy_outside (h : 1023 < n) : checkDropTenancy n s = .error .badValue := by
  simp [checkDropTenancy, not_inRange_iff.mpr (.inr h)]

theorem checkDropTenancy_absent (h : n ≤ 1023) (hnone : s.store.mirror.tenancies.find? n = none) :
    checkDropTenancy n s = .error .notFound := by
  simp [checkDropTenancy, inRange_iff.mpr ⟨Nat.zero_le n, h⟩, hnone]

theorem checkDropTenancy_named {r : TenancyRec} (h : n ≤ 1023) (hsome : s.store.mirror.tenancies.find? n = some r)
    (hnamed : 0 < s.store.mirror.namingCount n none) : checkDropTenancy n s = .error .inUse := by
  simp [checkDropTenancy, inRange_iff.mpr ⟨Nat.zero_le n, h⟩, hsome, hnamed]

theorem checkDropTenancy_ok {r : TenancyRec} (h : n ≤ 1023) (hsome : s.store.mirror.tenancies.find? n = some r)
    (hfree : s.store.mirror.namingCount n none = 0) :
    checkDropTenancy n s =
      .ok ((sortRising r.units).filterMap (vacateWrite s.store.mirror) ++ [.tenancy n none]) := by
  simp [checkDropTenancy, inRange_iff.mpr ⟨Nat.zero_le n, h⟩, hsome, hfree]

end

section
variable {o : CredentialOperands} {r : CredRec} {s : State}

theorem checkPutCredential_refused (h : credRecOf o = none) : checkPutCredential o s = .error .badValue := by
  simp [checkPutCredential, h]

theorem checkPutCredential_absent {n : Nat} (hrec : credRecOf o = some r) (htenancy : r.tenancy = some n)
    (hnone : s.store.mirror.tenancies.find? n = none) : checkPutCredential o s = .error .notFound := by
  simp [checkPutCredential, hrec, htenancy, hnone]

theorem checkPutCredential_ninth {n : Nat} (hrec : credRecOf o = some r) (htenancy : r.tenancy = some n)
    (hsome : (s.store.mirror.tenancies.find? n).isSome = true) (hfull : 8 ≤ s.store.mirror.namingCount n (some o.id)) :
    checkPutCredential o s = .error .full := by
  simp [checkPutCredential, hrec, htenancy, Option.isNone_eq_false_iff.mpr hsome, Config.credentialsPerTenancy, hfull]

/-- Past its tenancy, PUT_CREDENTIAL is judged by the slot that it finds. -/
theorem checkPutCredential_of_tenancy (hrec : credRecOf o = some r)
    (htenancy : ∀ t, r.tenancy = some t →
      (s.store.mirror.tenancies.find? t).isSome = true ∧ s.store.mirror.namingCount t (some o.id) < 8) :
    checkPutCredential o s =
      (s.store.mirror.slotFor o.id).elim (.error .full)
        (fun k => .ok [.credential k (some { id := o.id, record := r })]) := by
  have hpresent : r.tenancy.any (fun t => (s.store.mirror.tenancies.find? t).isNone) = false := by
    cases ht : r.tenancy with
    | none => rfl
    | some t => simpa [Option.isSome_iff_ne_none] using (htenancy t ht).1
  have hroom : r.tenancy.any (fun t => decide (Config.credentialsPerTenancy ≤ s.store.mirror.namingCount t (some o.id)))
      = false := by
    cases ht : r.tenancy with
    | none => rfl
    | some t => exact decide_eq_false (not_le.mpr (htenancy t ht).2)
  simp only [checkPutCredential, hrec, hpresent, hroom, Bool.false_eq_true, if_false]
  cases s.store.mirror.slotFor o.id <;> rfl

theorem slotFor_full {m : Mirror} {id : Nat} (hnone : m.credentials.find? id = none) (hfull : 2048 ≤ m.credentials.size) :
    m.slotFor id = none := by
  simp only [Mirror.slotFor, hnone]
  exact if_neg (not_lt.mpr hfull)

end

theorem checkDropCredential_outside {id : Nat} (h : id = 0 ∨ 4294967294 < id) (s : State) :
    checkDropCredential id s = .error .badValue := by
  have hout : idInRange id = false := not_inRange_iff.mpr (by omega)
  simp [checkDropCredential, hout]

theorem checkDropCredential_absent {id : Nat} {s : State} (h1 : 1 ≤ id) (h2 : id ≤ 4294967294)
    (hnone : s.store.mirror.credentials.find? id = none) : checkDropCredential id s = .error .notFound := by
  have hin : idInRange id = true := inRange_iff.mpr ⟨h1, h2⟩
  simp [checkDropCredential, hin, hnone]

theorem checkDropCredential_ok {id : Nat} {s : State} {e : CredEntry} (h1 : 1 ≤ id) (h2 : id ≤ 4294967294)
    (hsome : s.store.mirror.credentials.find? id = some e) :
    checkDropCredential id s =
      .ok (.credential e.slot none
        :: (s.store.duplicates.entries.filter (fun d => d.2 == id)).map (fun d => .credential d.1 none)) := by
  have hin : idInRange id = true := inRange_iff.mpr ⟨h1, h2⟩
  simp [checkDropCredential, hin, hsome]

theorem checkPutProfile_refused {n : Nat} {ws : List WindowOperand} {z : Set16} {g : Nat}
    (h : ∀ r, profileRecOf ws z g = some r → 14 < n) (s : State) : checkPutProfile n ws z g s = .error .badValue := by
  unfold checkPutProfile
  split
  case h_1 => rfl
  case h_2 r hr => exact if_neg (not_le.mpr (h r hr))

theorem checkPutProfile_ok {n : Nat} {ws : List WindowOperand} {z : Set16} {g : Nat} {r : ProfileRec}
    (hrec : profileRecOf ws z g = some r) (hn : n ≤ 14) (s : State) :
    checkPutProfile n ws z g s = .ok [.profile n r] := by
  simp [checkPutProfile, hrec, hn]

theorem checkPutHolidays_refused {days : List Nat} (h : 24 < days.length ∨ ¬days.Nodup) (s : State) :
    checkPutHolidays days s = .error .badValue := by
  refine if_neg (fun hall => ?_)
  simp only [Bool.and_eq_true, decide_eq_true_eq, distinct_iff] at hall
  exact h.elim (not_lt.mpr hall.1.1) (fun hnodup => hnodup hall.2)

theorem checkPutHolidays_ok {days : List Nat} (hlength : days.length ≤ 24) (hrange : ∀ d ∈ days, d ≤ 65535)
    (hnodup : days.Nodup) (s : State) : checkPutHolidays days s = .ok [.holidays (sortRising days)] := by
  refine if_pos ?_
  simpa [distinct_iff, hlength, hnodup] using hrange

theorem checkPutPortal_refused {n : Nat} {o : PortalOperands} (h : 15 < n ∨ portalRecOf o = none) (s : State) :
    checkPutPortal n o s = .error .badValue := by
  unfold checkPutPortal
  split
  case h_1 p r hp hr =>
    rcases h with hout | hnone
    · rw [portal?_of_outside hout] at hp
      cases hp
    · rw [hnone] at hr
      cases hr
  case h_2 => rfl

theorem checkPutPortal_ok {p : Fin 16} {o : PortalOperands} {r : PortalRec} (hrec : portalRecOf o = some r) (s : State) :
    checkPutPortal p.val o s = .ok [.portal p r] := by
  simp [checkPutPortal, hrec]

theorem checkPutCar_refused {n : Nat} {o : CarOperands} (h : 3 < n ∨ carRecOf o = none) (s : State) :
    checkPutCar n o s = .error .badValue := by
  unfold checkPutCar
  split
  case h_1 c r hc hr =>
    rcases h with hout | hnone
    · rw [car?_of_outside hout] at hc
      cases hc
    · rw [hnone] at hr
      cases hr
  case h_2 => rfl

theorem checkPutCar_ok {c : Fin 4} {o : CarOperands} {r : CarRec} (hrec : carRecOf o = some r) (s : State) :
    checkPutCar c.val o s = .ok [.car c r] := by
  simp [checkPutCar, car?_val, hrec]

end Sys2Proof.Machine

/-! PROOFS. PutOutcomes: every refusal and every taking of the puts and drops (R10, R12 to R21). -/

namespace Sys2Proof.Machine

/-- A put that its check refuses. -/
theorem officeRefuses_of_check {check : State → Except ResultCode (List SlotWrite)} {s : State} {c : Instr} {r : ResultCode}
    (hexec : exec c s = done (takePut check s)) (hack : s.acknowledges .office = true)
    (hwp : s.pins.straps.storeWp = false) (hcheck : check s = .error r) : OfficeRefuses s c r :=
  hexec.trans (done_takePut_refused hack hwp hcheck)

/-- PUT_CREDENTIAL's operands give no record where one is out of range or the kind does not allow its fields (R16). -/
theorem credRecOf_none {o : CredentialOperands}
    (h : o.id = 0 ∨ 4294967294 < o.id ∨ 2 < o.kind ∨ 1 < o.status
      ∨ (o.kind ≤ 1 ∧ (o.tenancy = none ∨ o.staffProfile ≠ none ∨ o.staffZones ≠ none))
      ∨ (o.kind = 0 ∧ (o.expiry ≠ none ∨ o.budget ≠ none))
      ∨ (o.kind = 2
          ∧ (o.tenancy ≠ none ∨ o.expiry ≠ none ∨ o.budget ≠ none ∨ o.staffProfile = none ∨ o.staffZones = none))
      ∨ (∃ x, o.tenancy = some x ∧ 1023 < x) ∨ (∃ x, o.expiry = some x ∧ 65535 < x)
      ∨ (∃ x, o.budget = some x ∧ 255 < x) ∨ (∃ x, o.staffProfile = some x ∧ 15 < x)
      ∨ (∃ x, o.staffZones = some x ∧ x.getLsbD 0 = true)) :
    credRecOf o = none := by
  by_contra hsome
  obtain ⟨r, hr⟩ := Option.ne_none_iff_exists'.mp hsome
  obtain ⟨k, hkind, hstatus, hid, hfields, htenancy, hexpiry, hbudget, hprofile, hzones⟩ := credRecOf_some hr
  have hid := inRange_iff.mp hid
  have hcode : k.code ≤ 2 := by cases k <;> decide
  have habsent : ∀ {x : Option Nat} {hi : Nat}, optInRange x hi = true → ¬∃ y, x = some y ∧ hi < y := by
    rintro _ hi hx ⟨y, rfl, hy⟩
    exact absurd (optInRange_some.mp hx) (not_le.mpr hy)
  rcases h with h | h | h | h | ⟨hk, h⟩ | ⟨hk, h⟩ | ⟨hk, h⟩ | h | h | h | h | ⟨x, hx, hzone⟩
  · omega
  · omega
  · omega
  · omega
  · cases k
    case staff => simp [hkind, CredKind.code] at hk
    all_goals
      simp only [fieldsFit, Bool.and_eq_true, Option.isSome_iff_ne_none, Option.isNone_iff_eq_none] at hfields
      simp [hfields] at h
  · cases k
    case principal =>
      simp only [fieldsFit, Bool.and_eq_true, Option.isSome_iff_ne_none, Option.isNone_iff_eq_none] at hfields
      simp [hfields] at h
    all_goals simp [hkind, CredKind.code] at hk
  · cases k
    case staff =>
      simp only [fieldsFit, Bool.and_eq_true, Option.isSome_iff_ne_none, Option.isNone_iff_eq_none] at hfields
      simp [hfields] at h
    all_goals simp [hkind, CredKind.code] at hk
  · exact habsent htenancy h
  · exact habsent hexpiry h
  · exact habsent hbudget h
  · exact habsent hprofile h
  · simp [hx] at hzones
    simp [hzones] at hzone

theorem portalRecOf_none {p : Nat} {o : PortalOperands}
    (h : 15 < p ∨ 1 < o.enabled ∨ 15 < o.outer ∨ o.inner = 0 ∨ 15 < o.inner ∨ o.inner = o.outer ∨ 2 < o.baseMode
      ∨ (14 < o.freeProfile ∧ o.freeProfile ≠ 0xFF) ∨ o.unlockCount = 0 ∨ 255 < o.unlockCount
      ∨ 1 < o.unlockBase ∨ 255 < o.heldLimit ∨ 2 < o.passback ∨ 1 < o.leafSensor ∨ 1 < o.beam
      ∨ 1 < o.exitButton ∨ 1 < o.egress ∨ 1 < o.polarity ∨ (3 < o.group ∧ o.group ≠ 0xFF) ∨ 1 < o.fallback
      ∨ o.timeout < 5 ∨ 60 < o.timeout) :
    15 < p ∨ portalRecOf o = none := by
  refine or_iff_not_imp_right.mpr (fun hsome => ?_)
  obtain ⟨r, hr⟩ := Option.ne_none_iff_exists'.mp hsome
  have hfits := portalRecOf_some hr
  omega

theorem carRecOf_none {c : Nat} {o : CarOperands}
    (h : 3 < c ∨ 1 < o.enabled ∨ o.landings = 0 ∨ 16 < o.landings ∨ o.zones.length ≠ o.landings
      ∨ (∃ z ∈ o.zones, z = 0 ∨ 15 < z) ∨ o.landings ≤ o.home ∨ 1 < o.mode ∨ 2 < o.passback ∨ o.window < 5
      ∨ 120 < o.window) :
    3 < c ∨ carRecOf o = none := by
  refine or_iff_not_imp_right.mpr (fun hsome => ?_)
  obtain ⟨r, hr⟩ := Option.ne_none_iff_exists'.mp hsome
  obtain ⟨henabled, hlandings, hlength, hzones, hhome, hmode, hpassback, hwindow⟩ := carRecOf_some hr
  have hzone : ¬∃ z ∈ o.zones, z = 0 ∨ 15 < z := by
    rintro ⟨z, hz, hout⟩
    have := hzones z hz
    omega
  simp only [hzone, false_or] at h
  omega

theorem profileRecOf_out {n : Nat} {ws : List WindowOperand} {z : Set16} {g : Nat}
    (h : 14 < n ∨ 6 < ws.length
      ∨ (∃ w ∈ ws, w.classes = 0 ∨ 1439 < w.openMinute ∨ 1440 < w.closeMinute ∨ w.closeMinute ≤ w.openMinute)
      ∨ z.getLsbD 0 = true ∨ 240 < g) :
    ∀ r, profileRecOf ws z g = some r → 14 < n := by
  intro r hr
  obtain ⟨⟨hlength, hwindows, hzone, hgrace⟩, _⟩ := profileRecOf_iff.mp hr
  have hwindow : ¬∃ w ∈ ws, w.classes = 0 ∨ 1439 < w.openMinute ∨ 1440 < w.closeMinute ∨ w.closeMinute ≤ w.openMinute := by
    rintro ⟨w, hw, hout⟩
    obtain ⟨hclasses, hopen, hclose, horder⟩ := windowFits_iff.mp (hwindows w hw)
    rcases hout with h | h
    · exact hclasses h
    · omega
  simp only [hwindow, hzone, Bool.false_eq_true, false_or] at h
  omega

/-- Every put or drop is answered WRITE_PROTECTED while STORE_WP is asserted. -/
theorem puts_protected {s : State} (hack : s.acknowledges .office = true) (hwp : s.pins.straps.storeWp = true)
    {check : State → Except ResultCode (List SlotWrite)} {c : Instr} (hexec : exec c s = done (takePut check s)) :
    OfficeRefuses s c .writeProtected :=
  hexec.trans (done_takePut_protected hack hwp)

/-- Settles O25: STORE_WP comes first, and then each put is refused by its own check. -/
theorem putsRefused : Obligations.PutsRefused := by
  refine ⟨fun s c hack hwp hput => ?_, fun s hack hwp => ?_⟩
  case refine_1 =>
    rcases hput with ⟨_, _, _, rfl⟩ | ⟨_, _, _, _, rfl⟩ | ⟨_, rfl⟩ | ⟨_, rfl⟩ | ⟨_, rfl⟩ | ⟨_, _, _, _, rfl⟩ | ⟨_, rfl⟩
      | ⟨_, _, rfl⟩ | ⟨_, _, rfl⟩ | ⟨_, rfl⟩
    all_goals exact puts_protected hack hwp rfl
  case refine_2 =>
    have hrefuses {check : State → Except ResultCode (List SlotWrite)} {c : Instr} {r : ResultCode}
        (hexec : exec c s = done (takePut check s)) (hcheck : check s = .error r) : OfficeRefuses s c r :=
      officeRefuses_of_check hexec hack hwp hcheck
    refine ⟨fun n z k h => ?_, fun n z k hnone hk => ?_, fun n z k u hu hstate hk => ?_, fun n z k u hu hstate hk => ?_,
      fun n k pr us h => ?_, fun n k pr us hn hk hpr hlow hhigh hunits hnodup => ?_, fun n h => ?_, fun n h hnone => ?_,
      fun n h hsome hnamed => ?_, fun o h => ?_, fun o r n hrec htenancy => ⟨fun hnone => ?_, fun hsome hfull => ?_⟩,
      fun o r hrec htenancy hnone hfull => ?_, fun id h => ?_, fun id h1 h2 hnone => ?_, fun n ws z g h => ?_,
      fun days h => ?_, fun p o h => ?_, fun c o h => ?_⟩
    -- PUT_UNIT
    case refine_1 =>
      refine hrefuses rfl (checkPutUnit_refused (fun st hst hn hz1 hz15 => ?_))
      have := (unitState?_lt hst).1
      omega
    case refine_2 => exact hrefuses rfl (checkPutUnit_assigning hk (fun u hu => by simp [hnone] at hu))
    case refine_3 =>
      refine hrefuses rfl (checkPutUnit_assigning hk (fun v hv => ?_))
      obtain rfl : u = v := Option.some.inj (hu.symm.trans hv)
      rcases hstate with h | h <;> rw [h] <;> rfl
    case refine_4 =>
      refine hrefuses rfl (checkPutUnit_unassigning hk hu ?_)
      rcases hstate with h | h | h <;> rw [h] <;> rfl
    -- PUT_TENANCY
    case refine_5 =>
      refine hrefuses rfl (checkPutTenancy_refused ?_)
      rw [or_iff_not_imp_right, not_not]
      rintro ⟨hn, hpr, hlength, hunits, hnodup⟩
      have hunit : ¬∃ u ∈ us, 4095 < u := fun ⟨u, hu, hbig⟩ => absurd (hunits u hu) (not_le.mpr hbig)
      simp only [hunit, hnodup, not_true_eq_false, or_false] at h
      omega
    case refine_6 =>
      obtain ⟨st, hst⟩ := tenancyState?_of_le hk
      have hfit : TenancyOperandsFit n pr us := ⟨hn, hpr, ⟨hlow, hhigh⟩, hunits, hnodup⟩
      refine ⟨fun habsent => hrefuses rfl (checkPutTenancy_notFound hst hfit habsent), fun hpresent hheld => ?_⟩
      obtain ⟨u, hu, r, hr, hother⟩ := hheld
      exact hrefuses rfl (checkPutTenancy_conflict hst hfit hpresent ⟨u, hu, r, hr, unitFreeFor_false hother⟩)
    -- DROP_TENANCY
    case refine_7 => exact hrefuses rfl (checkDropTenancy_outside h)
    case refine_8 => exact hrefuses rfl (checkDropTenancy_absent h hnone)
    case refine_9 =>
      obtain ⟨r, hr⟩ := Option.isSome_iff_exists.mp hsome
      exact hrefuses rfl (checkDropTenancy_named h hr hnamed)
    -- PUT_CREDENTIAL
    case refine_10 => exact hrefuses rfl (checkPutCredential_refused (credRecOf_none h))
    case refine_11 => exact hrefuses rfl (checkPutCredential_absent hrec htenancy hnone)
    case refine_12 => exact hrefuses rfl (checkPutCredential_ninth hrec htenancy hsome hfull)
    case refine_13 =>
      exact hrefuses rfl ((checkPutCredential_of_tenancy hrec htenancy).trans (by rw [slotFor_full hnone hfull, Option.elim_none]))
    -- DROP_CREDENTIAL
    case refine_14 => exact hrefuses rfl (checkDropCredential_outside h s)
    case refine_15 => exact hrefuses rfl (checkDropCredential_absent h1 h2 hnone)
    -- PUT_PROFILE, PUT_HOLIDAYS, PUT_PORTAL, PUT_CAR
    case refine_16 => exact hrefuses rfl (checkPutProfile_refused (profileRecOf_out h) s)
    case refine_17 => exact hrefuses rfl (checkPutHolidays_refused h s)
    case refine_18 => exact hrefuses rfl (checkPutPortal_refused (portalRecOf_none h) s)
    case refine_19 => exact hrefuses rfl (checkPutCar_refused (carRecOf_none h) s)

/-- Settles O26: what each check lets through, and a put that waits for a write-back. -/
theorem putsTaken : Obligations.PutsTaken := by
  refine ⟨fun s hack hwp hjob => ?_, fun s p o r j hack hwp hjob hrec =>
    done_takePut_waiting hack hwp hjob (checkPutPortal_ok hrec s)⟩
  have htaken {check : State → Except ResultCode (List SlotWrite)} {c : Instr} {writes : List SlotWrite}
      (hexec : exec c s = done (takePut check s)) (hcheck : check s = .ok writes) :
      exec c s = .next (s.programming writes) :=
    hexec.trans (done_takePut_programming hack hwp hjob hcheck)
  refine ⟨fun days hlength hrange hnodup => ?_, fun n ws z g hn hlength hzone hgrace hwindows => ?_, fun p o r hrec => ?_,
    fun c o r hrec => ?_, fun n z k st hn hz1 hz15 hst hchange => ?_,
    fun n k pr st us hn hst hpr hlow hhigh hnodup hunits => ?_, fun n r hn hsome hfree => ?_,
    fun o r k hrec htenancy hslot => ?_, fun id e h1 h2 hsome => ?_⟩
  case refine_1 => exact htaken rfl (checkPutHolidays_ok hlength hrange hnodup s)
  case refine_2 =>
    refine htaken rfl (checkPutProfile_ok (profileRecOf_iff.mpr ⟨⟨hlength, fun w hw => ?_, hzone, hgrace⟩, rfl⟩) hn s)
    exact windowFits_iff.mpr (hwindows w hw)
  case refine_3 => exact htaken rfl (checkPutPortal_ok hrec s)
  case refine_4 => exact htaken rfl (checkPutCar_ok hrec s)
  case refine_5 => exact htaken rfl (checkPutUnit_ok hst hn hz1 hz15 hchange)
  case refine_6 =>
    exact htaken rfl (checkPutTenancy_ok hst ⟨hn, hpr, ⟨hlow, hhigh⟩, fun u hu => (hunits u hu).1, hnodup⟩
      (fun u hu => (hunits u hu).2))
  case refine_7 => exact htaken rfl (checkDropTenancy_ok hn hsome hfree)
  case refine_8 => exact htaken rfl ((checkPutCredential_of_tenancy hrec htenancy).trans (by rw [hslot, Option.elim_some]))
  case refine_9 => exact htaken rfl (checkDropCredential_ok h1 h2 hsome)

end Sys2Proof.Machine

/-! PROOFS. Lines: the input lines of the building and their filters: LEAF, EXIT and BEAM of a portal, FIRE_IN and TAMPER
(R85, R96, R97, R150, R155). -/

namespace Sys2Proof.Machine

/-! ## Events at a state that is known -/

/-- An event whose action ends in a known state ends in that state, driven. -/
theorem done_of_eq {s t : State} (h : s = t) : done s = .next t.drive := done_eq.mpr (congrArg State.drive h.symm)

theorem whenRunning_of_running {s : State} (hrun : s.running = true) (act : State → State) : whenRunning s act = act s :=
  if_pos hrun

/-- A timer that holds the current tick is due. -/
theorem State.due_now (s : State) : s.due (some s.clock.tick) = true := beq_self_eq_true _

/-- The strike that a running part drives, by the leaf state of its portal. -/
theorem State.drive_strike {s : State} (hrun : s.running = true) (p : Fin 16) :
    s.drive.outs.strike[p] =
      if s.portals[p].leaf = .released ∨ s.portals[p].leaf = .free then releaseLevel (s.portalRec p)
      else secureLevel (s.portalRec p) :=
  ((State.drive_outputsFollow s).strike p).trans (State.strikeLevel_running (s := s.drive) hrun p)

/-! ## LEAF and EXIT (R85) -/

section
variable {s : State} {p : Fin 16} {level : Bool}

/-- A running part debounces a LEAF that changes level. -/
theorem State.leafIn_of_change (hrun : s.running = true) (h : s.pins.leaf[p] ≠ level) :
    s.leafIn p level =
      State.debounceLeaf { s with pins := { s.pins with leaf := s.pins.leaf.set p level } } p level := by
  rw [State.leafIn, if_neg h]
  exact if_pos hrun

/-- A running part debounces an EXIT that changes level. -/
theorem State.exitIn_of_change (hrun : s.running = true) (h : s.pins.exit[p] ≠ level) :
    s.exitIn p level =
      State.debounceExit { s with pins := { s.pins with exit := s.pins.exit.set p level } } p level := by
  rw [State.exitIn, if_neg h]
  exact if_pos hrun

theorem State.debounceLeaf_fitted (h : (s.portalRec p).leafSensor = true) :
    s.debounceLeaf p level =
      s.modPortal p (fun q =>
        { q with
          leafDebounce := if q.position = leafPositionOf level then none else some (s.after Config.debounceTicks) }) :=
  if_pos h

theorem State.debounceLeaf_unfitted (h : (s.portalRec p).leafSensor = false) : s.debounceLeaf p level = s :=
  if_neg (by simp [h])

/-! ## BEAM (R96, R97) -/

/-- The filter of a running part moves with a BEAM that changes level. -/
theorem State.beamIn_of_change (hrun : s.running = true) (h : s.pins.beam[p] ≠ level) (f : Portal → Portal) :
    s.beamIn p level f = State.modPortal { s with pins := { s.pins with beam := s.pins.beam.set p level } } p f := by
  rw [State.beamIn, if_neg h]
  exact if_pos hrun

theorem BeamFilter.broken_eq (n : Nat) (f : BeamFilter) :
    f.broken n = match f with | .armed => .timing n | .rearming _ => .counted | g => g := by
  cases f <;> rfl

theorem BeamFilter.cleared_eq (n : Nat) (f : BeamFilter) :
    f.cleared n = match f with | .timing _ => .armed | .counted => .rearming n | g => g := by
  cases f <;> rfl

/-- A qualifying interruption counts a passage in every leaf state but SECURE and FREE. -/
theorem Portal.interrupted_eq {q : Portal} (h : q.passages ≤ 255) :
    q.interrupted =
      { q with
        beam := .counted
        passages :=
          if q.leaf = .secure ∨ q.leaf = .free then q.passages
          else if q.passages = 255 then 255 else q.passages + 1 } := by
  have hcount : min (q.passages + 1) 255 = if q.passages = 255 then 255 else q.passages + 1 := by
    split <;> omega
  cases hleaf : q.leaf <;> simp [Portal.interrupted, LeafState.countsPassages, hleaf, hcount]

/-- Two changes of a portal that agree at its present state are one change. -/
theorem State.modPortal_congr {f g : Portal → Portal} (h : f s.portals[p] = g s.portals[p]) :
    s.modPortal p f = s.modPortal p g := by
  simp only [State.modPortal, h]

end

/-- Settles O46: each line's change by the debounce or the filter that it reaches, each expiry by its own tick. -/
theorem linesAreFiltered : Obligations.LinesAreFiltered := by
  refine ⟨fun s p level hrun => ⟨?fitted, ?unfitted, ?exit⟩, fun s p hrun => ⟨?broken, ?cleared, ?counted, ?rearmed⟩⟩
  case fitted =>
    intro hlevel hsensor
    refine done_of_eq ((State.leafIn_of_change hrun hlevel).trans ?_)
    exact State.debounceLeaf_fitted hsensor
  case unfitted =>
    intro hlevel hsensor
    refine done_of_eq ((State.leafIn_of_change hrun hlevel).trans ?_)
    exact State.debounceLeaf_unfitted hsensor
  case exit =>
    intro hlevel
    exact done_of_eq (State.exitIn_of_change hrun hlevel)
  case broken =>
    intro hbeam
    refine done_of_eq ((State.beamIn_of_change hrun (by rw [hbeam]; decide) _).trans ?_)
    simp only [BeamFilter.broken_eq]
    rfl
  case cleared =>
    intro hbeam
    refine done_of_eq ((State.beamIn_of_change hrun (by rw [hbeam]; decide) _).trans ?_)
    simp only [BeamFilter.cleared_eq]
    rfl
  case counted =>
    intro hbeam hroom
    have hdue : s.interruptionDue p = true := by simp only [State.interruptionDue, hrun, hbeam, beq_self_eq_true, Bool.and_self]
    exact done_of_eq ((timed_due (due := (·.interruptionDue p)) hdue).trans
      (State.modPortal_congr (Portal.interrupted_eq hroom)))
  case rearmed =>
    intro hbeam
    have hdue : s.rearmDue p = true := by simp only [State.rearmDue, hrun, hbeam, beq_self_eq_true, Bool.and_self]
    exact done_of_eq (timed_due (due := (·.rearmDue p)) hdue)

/-! ## FIRE_IN and TAMPER (R150, R155) -/

/-- FIRE_IN that changes level while it is sampled starts the filter anew. -/
theorem State.fireIn_of_change {s : State} {high : Bool} (hsample : s.sampling = true) (h : s.pins.fireHigh ≠ high) :
    s.fireIn high = State.startFireFilter { s with pins := { s.pins with fireHigh := high } } := by
  rw [State.fireIn, if_neg h]
  exact if_pos hsample

/-- TAMPER that changes level while the part runs with a clear latch starts or cancels the filter. -/
theorem State.tamperIn_of_change {s : State} {level : Bool} (hrun : s.running = true) (hlatch : s.fire.latch = false)
    (h : s.pins.tamper ≠ level) :
    s.tamperIn level =
      { s with
        pins := { s.pins with tamper := level }
        fire := { s.fire with tamperFilter := if level then some (s.after Config.tamperTicks) else none } } := by
  rw [State.tamperIn, if_neg h]
  exact if_pos (by simp [hrun, hlatch])

/-- A raised flag of the Office Port stands in its flags. -/
theorem State.raiseBoth_flags (s : State) (f : Flag) :
    (s.raiseBoth f).office.flags.getLsbD f.code = true ∧ (s.raiseBoth f).field.flags.getLsbD f.code = true := by
  have hbit : f.bit.getLsbD f.code = true := by cases f <;> decide
  simp [State.raiseBoth, State.raise, State.modPort, hbit]

/-- A set latch of a running part asserts ALARM. -/
theorem State.drive_alarm_of_latch {s : State} (hrun : s.running = true) (h : s.fire.latch = true) :
    s.drive.outs.alarm = true := by
  simp [State.drive, State.outputs, hrun, State.alarming, h]

theorem State.setLatch_fire (s : State) : s.setLatch.fire = { s.fire with latch := true, tamperFilter := none } := by
  simp [State.setLatch, State.note]

theorem State.setLatch_getLast? (s : State) : s.setLatch.journal.getLast? = some (s.blankRecord .tamper) := by
  simp only [State.setLatch, State.note, State.raiseBoth_journal, State.append_getLast?]
  rfl

theorem State.setLatch_running (s : State) : s.setLatch.running = s.running := by simp [State.running]

/-- Settles O55: the two filters by the level that comes, the latch by its filter's expiry. -/
theorem fireAndTamperFilters : Obligations.FireAndTamperFilters := by
  refine ⟨?fire, fun s hrun => ⟨?tamper, ?latch⟩⟩
  case fire => exact fun s high hsample h => done_of_eq (State.fireIn_of_change hsample h)
  case tamper => exact fun hlatch level h => done_of_eq (State.tamperIn_of_change hrun hlatch h)
  case latch =>
    intro hfilter
    have hdue : s.tamperDue = true := by simp [State.tamperDue, hrun, hfilter, State.due_now]
    have hflags := State.raiseBoth_flags
      (State.note { s with fire := { s.fire with latch := true, tamperFilter := none } } .tamper none none) .tamper
    refine ⟨s.setLatch.drive, done_of_eq (timed_due (due := State.tamperDue) hdue), s.setLatch_fire,
      s.setLatch_getLast?, hflags.1, hflags.2, ?_, ?_⟩
    · exact State.drive_alarm_of_latch (s.setLatch_running.trans hrun) (by rw [State.setLatch_fire])
    · apply State.eq_of_fields <;> simp

end Sys2Proof.Machine

/-! PROOFS. Minutes: what a tick and a minute boundary do to the clock (R28, R30; log entries 7, 8 and 14). -/

namespace Sys2Proof.Machine

/-! ## What the events of a tick leave: the supplies, the pins and the clock -/

/-- The fields that no event of a timer touches. -/
def State.domain (s : State) : Power × Pins × Clock := (s.power, s.pins, s.clock)

theorem State.domain_eq_iff {s t : State} :
    s.domain = t.domain ↔ s.power = t.power ∧ s.pins = t.pins ∧ s.clock = t.clock := by
  simp [State.domain]

theorem settle_domain {due : State → Bool} {act : State → State} (h : ∀ s, (act s).domain = s.domain) (s : State) :
    (settle due act s).domain = s.domain :=
  settle_keeps (P := fun t => t.domain = s.domain) rfl fun _ => h s

theorem State.fireStarts_domain (s : State) : s.fireStarts.domain = s.domain := by
  unfold State.fireStarts
  simp only
  split
  case isTrue =>
    rw [foldl_keeps State.domain State.recomputeMode (fun t p => by simp [State.domain])]
    simp [State.domain]
  case isFalse => rfl

theorem State.fireEnds_domain (s : State) : s.fireEnds.domain = s.domain := by
  unfold State.fireEnds
  simp only
  split
  case isTrue =>
    rw [foldl_keeps State.domain awaitRecompute (fun t p => rfl)]
    simp [State.domain, State.note]
  case isFalse => rfl

theorem State.reachDeadline_domain (s : State) (e : Referral) : (s.reachDeadline e).domain = s.domain := by
  unfold State.reachDeadline State.recheckAndResolve
  split <;> simp [State.domain]

theorem State.meetDeadline_domain (s : State) (ticket : Nat) : (s.meetDeadline ticket).domain = s.domain := by
  unfold State.meetDeadline
  split
  · exact s.reachDeadline_domain _
  · rfl

theorem settlePortal_domain (s : State) (p : Fin 16) : (settlePortal s p).domain = s.domain := by
  unfold settlePortal
  simp only
  repeat rw [settle_domain (fun t => by simp [State.domain])]

/-- The events that a tick takes leave the supplies, the pins and the clock. -/
theorem State.settleDue_domain (s : State) : s.settleDue.domain = s.domain := by
  unfold State.settleDue
  simp only
  rw [settleFrame, settle_domain (fun t => by simp [State.domain]), settleFrame,
    settle_domain (fun t => by simp [State.domain]),
    foldl_keeps State.domain settleSession (fun t c => settle_domain (fun u => by simp [State.domain]) t),
    foldl_keeps State.domain settleDeadline (fun t n => settle_domain (fun u => u.meetDeadline_domain n) t),
    foldl_keeps State.domain settlePortal settlePortal_domain,
    settle_domain (fun t => by simp [State.domain]),
    foldl_keeps State.domain settleRecompute (fun t p => settle_domain (fun u => by simp [State.domain]) t),
    settle_domain State.fireEnds_domain, settle_domain State.fireStarts_domain]

theorem State.settleDue_clock (s : State) : s.settleDue.clock = s.clock :=
  (State.domain_eq_iff.mp s.settleDue_domain).2.2

theorem State.settleDue_power (s : State) : s.settleDue.power = s.power :=
  (State.domain_eq_iff.mp s.settleDue_domain).1

/-! ## Ticks (R28) -/

/-- Pin levels that carry no VBAT failure, or come while main power holds, leave the clock. -/
theorem State.setStraps_clock {s : State} {x : Option Straps}
    (h : s.power.main = true ∨ ∀ y : Straps, x = some y → y.vbat = true) : (s.setStraps x).clock = s.clock := by
  cases x with
  | none => rfl
  | some y =>
    have hheld : s.power.main = true ∨ y.vbat = true := h.imp_right fun hy => hy y rfl
    rw [State.setStraps, State.supplyClock_held hheld]

theorem State.setStraps_power (s : State) (x : Option Straps) : (s.setStraps x).power = s.power := by
  cases x with
  | none => rfl
  | some y => simp [State.setStraps]

/-- A minute boundary leaves the supplies and the pins, and its clock is the next minute, whether or not the part runs. -/
theorem State.takeBoundary_domain (s : State) : s.takeBoundary.domain = (s.power, s.pins, s.clock.nextMinute) := by
  unfold State.takeBoundary whenRunning
  split
  case isTrue =>
    rw [foldl_keeps State.domain State.portalBoundary (fun t p => by simp [State.domain])]
    simp only [State.countOutOfWindow]
    split
    · rfl
    · rw [foldl_keeps State.domain _ (fun t pair => by unfold raiseOverstay; split <;> simp [State.domain])]
      rfl
  case isFalse => rfl

theorem State.takeBoundary_clock (s : State) : s.takeBoundary.clock = s.clock.nextMinute := by
  have h := s.takeBoundary_domain
  simp only [State.domain, Prod.mk.injEq] at h
  exact h.2.2

theorem State.takeBoundary_pins (s : State) : s.takeBoundary.pins = s.pins := by
  have h := s.takeBoundary_domain
  simp only [State.domain, Prod.mk.injEq] at h
  exact h.2.1

/-- Pin levels without VBAT, where main power is absent, take the clock domain's power. -/
theorem State.setStraps_lost {s : State} {x : Straps} (hmain : s.power.main = false) (hvbat : x.vbat = false) :
    s.setStraps (some x) = { s with pins := { s.pins with straps := x }, clock := s.clock.lose } :=
  State.supplyClock_lost (s := { s with pins := { s.pins with straps := x } }) hmain hvbat

/-- A powered clock takes the tick, and with it the boundary that it brings. -/
theorem State.stepClock_clock {s : State} (hpower : s.clockPowered = true) :
    s.stepClock.clock =
      if s.clock.advance.boundaryDue then s.clock.advance.nextMinute else s.clock.advance := by
  simp only [State.stepClock, hpower, if_true]
  split
  · exact State.takeBoundary_clock _
  · rfl

/-- A tick with no boundary due steps a powered clock, whatever events it takes first. -/
theorem State.tick_clock {s : State} {x : Option Straps} (hpower : s.clockPowered = true)
    (hnone : s.clock.boundaryDue = false) (hx : s.power.main = true ∨ ∀ y : Straps, x = some y → y.vbat = true) :
    (s.tick x).clock = if s.clock.advance.boundaryDue then s.clock.advance.nextMinute else s.clock.advance := by
  have hclock : (s.settleDue.setStraps x).clock = s.clock :=
    (State.setStraps_clock (by rwa [State.settleDue_power])).trans s.settleDue_clock
  have hstill : (s.settleDue.setStraps x).clockPowered = true := by
    rw [State.clockPowered, hclock, State.setStraps_power, State.settleDue_power]
    exact hpower
  simp only [State.tick, hnone, Bool.false_eq_true, if_false, State.stepClock_clock hstill, hclock]

theorem Clock.advance_phase {k : Clock} (h : k.phase < 99) :
    k.advance = { k with tick := k.tick + 1, phase := k.phase + 1 } :=
  if_pos (Nat.succ_lt_succ h)

theorem Clock.advance_second {k : Clock} (hphase : k.phase = 99) (h : k.second < 59) :
    k.advance = { k with tick := k.tick + 1, phase := 0, second := k.second + 1 } := by
  simp [Clock.advance, Config.ticksPerSecond, hphase, h]

theorem Clock.advance_minute {k : Clock} (hphase : k.phase = 99) (h : k.second = 59) :
    k.advance = { k with tick := k.tick + 1, phase := 0, boundaryDue := true } := by
  simp [Clock.advance, Config.ticksPerSecond, hphase, h]

theorem Clock.endsMinute_iff {k : Clock} :
    k.endsMinute = true ↔ k.phase = 99 ∧ k.second = 59 ∧ k.boundaryDue = false := by
  simp [Clock.endsMinute, Config.ticksPerSecond, and_assoc]

/-- The minute after a minute, with the day at the end of minute 1,439. -/
theorem Clock.nextMinute_eq (k : Clock) :
    k.nextMinute =
      { k with
        second := 0
        minute := if k.minute < 1439 then k.minute + 1 else 0
        day := if k.minute < 1439 then k.day else (k.day + 1) % 65536
        boundaryDue := false } := by
  unfold Clock.nextMinute
  by_cases h : k.minute < 1439
  · rw [if_pos (by omega), if_pos h, if_pos h]
  · rw [if_neg (by omega), if_neg h, if_neg h]

/-- Settles O22: a tick leaves the clock's step of the tick it takes, and the tick that ends the minute is the minute
boundary. -/
theorem clockAdvances : Obligations.ClockAdvances := by
  refine ⟨fun s x hpower hnone hx => ⟨?phase, ?second⟩, fun s hpower hnone hphase hsecond => ?minute⟩
  case phase =>
    intro hphase
    refine ⟨(s.tick x).drive, rfl, (State.tick_clock hpower hnone hx).trans ?_⟩
    simp [Clock.advance_phase hphase, hnone]
  case second =>
    intro hphase hsecond
    refine ⟨(s.tick x).drive, rfl, (State.tick_clock hpower hnone hx).trans ?_⟩
    simp [Clock.advance_second hphase hsecond, hnone]
  case minute =>
    have hboundary : s.boundary = s.tick none := by
      simp [State.boundary, Clock.endsMinute_iff.mpr ⟨hphase, hsecond, hnone⟩]
    have hsame : exec (.tick none) s = exec .minuteBoundary s := (congrArg done hboundary).symm
    refine ⟨hsame, (s.tick none).drive, hsame.symm, ?_⟩
    refine (State.tick_clock (x := none) hpower hnone (.inr fun y hy => nomatch hy)).trans ?_
    simp [Clock.advance_minute hphase hsecond, Clock.nextMinute_eq, hnone]

end Sys2Proof.Machine

/-! PROOFS. Stops: power loss, RESET_N and VBAT loss, and the beginning of restore (R26, R29, R30, R150, R171; log entries
1, 14 and 16). -/

namespace Sys2Proof.Machine

/-! ## A part that does not run -/

/-- A part that does not run drives none of its output pins. -/
theorem State.outputs_stopped {s : State} (hstop : s.running = false) : s.outputs = Outputs.stopped := by
  have hstrike : s.strikeLevel = fun _ => .undriven := funext (State.strikeLevel_stopped hstop)
  simp only [State.outputs, Outputs.stopped, hstop, hstrike, Bool.false_and, Outputs.mk.injEq, and_true]
  exact ⟨by decide, by decide⟩

/-- Where every block has stopped, nothing of the volatile state is left, whatever supplies and clock there are. -/
theorem stopBlocks_volatileLost (s : State) (x : Power) (k : Clock) :
    VolatileLost (State.drive { s.stopBlocks with power := x, clock := k }) := by
  have hstop : State.running { s.stopBlocks with power := x, clock := k } = false := by
    simp [State.running, State.stopBlocks]
  rw [State.drive, State.outputs_stopped hstop]
  exact ⟨rfl, rfl, rfl, rfl, rfl, rfl, rfl, rfl, rfl, rfl, rfl, rfl, rfl, rfl, rfl, rfl, rfl, rfl⟩

/-! ## Stopping (R26) -/

/-- An interruption of programming touches neither the pins nor the clock. -/
@[simp] theorem State.interruptProgramming_frame (s : State) :
    s.interruptProgramming.pins = s.pins ∧ s.interruptProgramming.clock = s.clock := by
  unfold State.interruptProgramming
  repeat' split
  all_goals exact ⟨rfl, rfl⟩

theorem State.interruptProgramming_idle {s : State} (hjob : s.store.job = none) : s.interruptProgramming = s := by
  simp [State.interruptProgramming, hjob]

/-- The slot being programmed holds what it held, what was being written, or is INVALID (log entry 1). -/
theorem State.interruptProgramming_slots {s : State} {j : Job} {w : SlotWrite} (hjob : s.store.job = some j)
    (hslot : j.writes[j.verified]? = some w) :
    s.interruptProgramming.store.slots = s.store.slots
      ∨ s.interruptProgramming.store.slots = s.store.slots.program true w
      ∨ s.interruptProgramming.store.slots = s.store.slots.program false w := by
  simp only [State.interruptProgramming, hjob, hslot]
  cases Config.interruptedSlot s.freeCount with
  | old => exact .inl rfl
  | new => exact .inr (.inl rfl)
  | invalid => exact .inr (.inr rfl)

/-- Main power that fails stops every block, and the clock goes on where VBAT holds. -/
theorem State.losePower_eq {s : State} (hmain : s.power.main = true) :
    ∃ k, s.losePower = { s.interruptProgramming.stopBlocks with power := { s.power with main := false }, clock := k }
      ∧ (s.pins.straps.vbat = true → k = s.clock.settle)
      ∧ (s.pins.straps.vbat = false → k.mark = false ∧ k.valid = false) := by
  have hpins : s.interruptProgramming.pins = s.pins := s.interruptProgramming_frame.1
  have hclock : s.interruptProgramming.clock = s.clock := s.interruptProgramming_frame.2
  cases hvbat : s.pins.straps.vbat with
  | true =>
    refine ⟨s.clock.settle, ?_, fun _ => rfl, fun h => nomatch h⟩
    rw [State.losePower, if_pos hmain, State.supplyClock_held (.inr (by rw [← hvbat, ← hpins]; rfl)), ← hclock]
    rfl
  | false =>
    refine ⟨s.clock.settle.lose, ?_, fun h => (nomatch h), fun _ => ⟨rfl, rfl⟩⟩
    rw [State.losePower, if_pos hmain, State.supplyClock_lost rfl (by rw [← hvbat, ← hpins]; rfl), ← hclock]
    rfl

/-- With VBAT gone the clock domain holds nothing unless main power is there. -/
theorem State.supplyClock_clock {s : State} (hvbat : s.pins.straps.vbat = false) :
    (s.power.main = true → s.supplyClock.clock = s.clock)
      ∧ (s.power.main = false → s.supplyClock.clock.mark = false ∧ s.supplyClock.clock.valid = false) := by
  refine ⟨fun hmain => by rw [State.supplyClock_held (.inl hmain)], fun hmain => ?_⟩
  rw [State.supplyClock_lost hmain hvbat]
  exact ⟨rfl, rfl⟩

/-- A tick leaves a clock domain that has lost its power as it is. -/
theorem State.stepClock_unpowered {s : State} (h : s.clockPowered = false) : s.stepClock = s := by
  simp [State.stepClock, h]

/-- Settles O59: every stop is the stop of the blocks, and the clock goes with its supplies. -/
theorem stoppingLosesVolatileState : Obligations.StoppingLosesVolatileState := by
  intro s
  have hpins : s.interruptProgramming.pins = s.pins := s.interruptProgramming_frame.1
  have hclock : s.interruptProgramming.clock = s.clock := s.interruptProgramming_frame.2
  refine ⟨?power, ?reset, ?vbat, ?tick⟩
  case power =>
    intro hmain
    obtain ⟨k, hlost, hheld, hgone⟩ := State.losePower_eq hmain
    refine ⟨_, done_of_eq hlost, stopBlocks_volatileLost _ _ _, rfl, hpins, hheld, hgone, fun hjob => ?_,
      fun j w hjob hslot => State.interruptProgramming_slots hjob hslot⟩
    exact congrArg (·.store.slots) (State.interruptProgramming_idle hjob)
  case reset =>
    intro hreset
    have hstops : s.assertReset =
        { s.interruptProgramming.stopBlocks with
          power := { s.power with resetAsserted := true }, clock := s.interruptProgramming.clock.settle } :=
      if_neg (by simp [hreset])
    refine ⟨_, done_of_eq hstops, stopBlocks_volatileLost _ _ _, rfl, congrArg Clock.settle hclock, hpins, fun hjob => ?_⟩
    exact congrArg (·.store.slots) (State.interruptProgramming_idle hjob)
  case vbat =>
    have hclock := State.supplyClock_clock
      (s := { s with pins := { s.pins with straps := { s.pins.straps with vbat := false } } }) rfl
    refine ⟨s.loseVbat.drive, rfl, ?_, hclock.1, hclock.2⟩
    apply State.eq_of_fields <;> simp [State.loseVbat]
  case tick =>
    intro x hvbat hmain
    refine ⟨(s.tick (some x)).drive, rfl, ?_⟩
    cases hdue : s.clock.boundaryDue with
    | true =>
      have htick : s.tick (some x) = (s.setStraps (some x)).takeBoundary := if_pos hdue
      rw [htick, State.setStraps_lost hmain hvbat]
      simp [State.takeBoundary_pins, State.takeBoundary_clock, Clock.nextMinute_eq, Clock.lose]
    | false =>
      have hmain : s.settleDue.power.main = false := by rw [State.settleDue_power, hmain]
      have htick : s.tick (some x) = (s.settleDue.setStraps (some x)).stepClock := if_neg (by simp [hdue])
      rw [htick, State.setStraps_lost hmain hvbat, State.stepClock_unpowered (by simp [State.clockPowered, hmain, Clock.lose])]
      exact ⟨rfl, rfl, rfl⟩

/-! ## Restore begins (R26, R29, R30, R150, R171) -/

/-- A clock that is examined goes on while its mark is intact, and otherwise starts again with the mark written. -/
theorem Clock.examine_of_mark {k : Clock} (h : k.mark = true) : k.examine = k := if_pos h

theorem Clock.examine_of_no_mark {k : Clock} (h : k.mark = false) :
    k.examine =
      { day := 0, minute := 0, second := 0, valid := false, phase := 0, tick := k.tick, mark := true,
        boundaryDue := false } :=
  if_neg (by simp [h])

theorem Clock.settle_mark (k : Clock) : k.settle.mark = k.mark := by
  unfold Clock.settle
  split
  · rw [Clock.nextMinute_eq]
  · rfl

/-- Power with RESET_N negated begins restore over stopped blocks. -/
theorem State.powerOn_of_absent {s : State} (hmain : s.power.main = false) (hreset : s.power.resetAsserted = false) :
    s.powerOn =
      State.beginRestore
        { s.stopBlocks with power := { main := true, resetAsserted := false }, clock := s.clock.settle.examine } := by
  simp [State.powerOn, hmain, hreset]

theorem State.negateReset_of_powered {s : State} (hmain : s.power.main = true) (hreset : s.power.resetAsserted = true) :
    s.negateReset = State.beginRestore { s with power := { main := true, resetAsserted := false } } := by
  simp [State.negateReset, hmain, hreset]

/-- Restore that begins over stopped blocks holds nothing of the volatile state. -/
theorem beginRestore_volatileLost (s : State) (x : Power) (k : Clock) :
    VolatileLost (State.drive (State.beginRestore { s.stopBlocks with power := x, clock := k })) := by
  have hstop : (State.beginRestore { s.stopBlocks with power := x, clock := k }).running = false := by
    simp [State.running, State.beginRestore, State.restartTicks, State.sampleStraps, State.stopBlocks]
  rw [State.drive, State.outputs_stopped hstop]
  exact ⟨rfl, rfl, rfl, rfl, rfl, rfl, rfl, rfl, rfl, rfl, rfl, rfl, rfl, rfl, rfl, rfl, rfl, rfl⟩

/-- Settles O58: both beginnings are the beginning of restore, at power-on over stopped blocks and an examined clock. -/
theorem restoreBegins : Obligations.RestoreBegins := by
  refine ⟨fun s hmain hreset => ?power, fun s hmain hreset => ?reset⟩
  case power =>
    refine ⟨_, done_of_eq (State.powerOn_of_absent hmain hreset), ?_, rfl, rfl, rfl, fun hmark => ?_, fun hmark => ?_, rfl,
      ?_, rfl, rfl⟩
    · exact beginRestore_volatileLost s _ _
    · exact congrArg (fun k : Clock => { k with tick := 0 }) (Clock.examine_of_mark (s.clock.settle_mark.trans hmark))
    · exact congrArg (fun k : Clock => { k with tick := 0 }) (Clock.examine_of_no_mark (s.clock.settle_mark.trans hmark))
    · by_cases h : s.pins.fireHigh = s.pins.straps.firePolHigh
      · exact (if_neg (by simp [State.fireInput, State.restartTicks, State.sampleStraps, State.stopBlocks, h])).trans
          (if_pos h).symm
      · exact (if_pos (by simp [State.fireInput, State.restartTicks, State.sampleStraps, State.stopBlocks, h])).trans
          (if_neg h).symm
  case reset =>
    exact ⟨_, done_of_eq (State.negateReset_of_powered hmain hreset), rfl, rfl, rfl, rfl, rfl, rfl, rfl, rfl, rfl⟩

end Sys2Proof.Machine

/-! PROOFS. Restores: the completion of restore (R26, R27, R109, R154, R164). -/

namespace Sys2Proof.Machine

/-- The state in which the portals have begun, before the fire and tamper states of the building are noted (R27). -/
def State.begun (s : State) (v : Vector Portal 16) : State := { s.loadMirror.noteStart with portals := v }

section
variable {s : State}

/-- Restore completes over the portals that have begun, with a FIRE_ON record under fire (R154). -/
theorem State.completeRestore_eq (hsampling : s.sampling = true) (hres : s.store.phase = .restoring) :
    ∃ v, s.completeRestore = (if s.fire.active then (s.begun v).noteFireOn else s.begun v).startTamperFilter := by
  obtain ⟨v, hv⟩ := State.startPortals_frame allPortals s.loadMirror.noteStart
  exact ⟨v, by rw [State.completeRestore_of_sampling hsampling hres, hv]; rfl⟩

/-- The Store, READY with the reconciled mirror of its slots (R26, R27). -/
theorem State.completeRestore_store (hsampling : s.sampling = true) (hres : s.store.phase = .restoring) :
    s.completeRestore.store = s.loadMirror.store := by
  obtain ⟨v, hv⟩ := State.completeRestore_eq hsampling hres
  rw [hv]
  split <;> simp [State.startTamperFilter, State.begun, State.noteStart]

theorem State.completeRestore_fire (hsampling : s.sampling = true) (hres : s.store.phase = .restoring) :
    s.completeRestore.fire =
      { s.fire with tamperFilter := if s.pins.tamper = true then some (s.clock.tick + 10) else none } := by
  obtain ⟨v, hv⟩ := State.completeRestore_eq hsampling hres
  rw [hv]
  split <;>
    simp [State.startTamperFilter, State.begun, State.noteStart, State.loadMirror, State.after, Config.tamperTicks]

/-- What restore completion leaves of the part. -/
theorem State.completeRestore_frame (hsampling : s.sampling = true) (hres : s.store.phase = .restoring) :
    s.completeRestore =
      { s with
        store := s.completeRestore.store, portals := s.completeRestore.portals, fire := s.completeRestore.fire
        journal := s.completeRestore.journal, office := s.completeRestore.office
        field := s.completeRestore.field } := by
  obtain ⟨v, hv⟩ := State.completeRestore_eq hsampling hres
  rw [hv]
  split <;> apply State.eq_of_fields <;> simp [State.startTamperFilter, State.begun, State.noteStart, State.loadMirror]

/-- START is the first record, and under fire FIRE_ON the second (R154, R164). -/
theorem State.completeRestore_journal (hsampling : s.sampling = true) (hres : s.store.phase = .restoring)
    (hempty : s.journal = []) :
    s.completeRestore.journal =
      { s.blankRecord .start with
        count := some s.store.slots.invalidCount, secondCount := some s.store.slots.reconciledCount }
        :: (if s.fire.active = true then
              [{ s.blankRecord .fireOn with count := some s.completeRestore.egressPortals.length }]
            else []) := by
  have hegress : s.completeRestore.egressPortals = s.loadMirror.egressPortals := by
    simp only [State.egressPortals, State.portalRec, State.completeRestore_store hsampling hres]
  rw [hegress]
  obtain ⟨v, hv⟩ := State.completeRestore_eq hsampling hres
  have hstart : (s.begun v).journal =
      [{ s.blankRecord .start with
         count := some s.store.slots.invalidCount, secondCount := some s.store.slots.reconciledCount }] := by
    simp [State.begun, State.noteStart, State.append_journal, State.loadMirror, hempty, State.blankRecord]
  have hrecs : (s.begun v).egressPortals = s.loadMirror.egressPortals := by
    simp [State.egressPortals, State.portalRec, State.begun, State.noteStart]
  rw [hv]
  split
  case isTrue =>
    simp only [State.startTamperFilter, State.noteFireOn, State.note, State.raiseBoth_journal, State.append_journal, hstart,
      hrecs]
    simp [State.blankRecord, State.begun, State.noteStart, State.loadMirror]
  case isFalse => exact hstart

theorem State.completeRestore_running (hsampling : s.sampling = true) (hres : s.store.phase = .restoring) :
    s.completeRestore.running = true := by
  refine State.running_iff.mpr ⟨?_, by simp [State.completeRestore_store hsampling hres, State.loadMirror]⟩
  simpa only [State.sampling, (Keeps.completeRestore s).power] using hsampling

/-- A begun portal has no hold and no cycle, and its recognitions are unknown (R109). -/
theorem State.begunPortal_fresh (t : State) (p : Fin 16) :
    (t.begunPortal p).leaf = (if (t.begunPortal p).mode = .free then .free else .secure)
      ∧ (t.begunPortal p).hold = none ∧ (t.begunPortal p).grants = 0 ∧ (t.begunPortal p).passages = 0
      ∧ (t.begunPortal p).moves = [] ∧ (t.begunPortal p).unlock = none ∧ (t.begunPortal p).held = none
      ∧ (t.begunPortal p).position = (if (t.portalRec p).leafSensor = true then .unknown else .notSensed)
      ∧ (t.begunPortal p).exit = .unknown :=
  ⟨rfl, rfl, rfl, rfl, rfl, rfl, rfl, rfl, rfl⟩

/-- Fire frees an egress portal as it begins. -/
theorem State.begunPortal_freed {t : State} {p : Fin 16} (hactive : t.fire.active = true)
    (hegress : (t.portalRec p).egress = true) : (t.begunPortal p).mode = .free :=
  if_pos (State.egressUnderFire_iff.mpr ⟨hactive, hegress⟩)

/-- Settles O60: each portal as its controller begins it, the journal by START and FIRE_ON, the strikes by the states. -/
theorem restoreCompletes : Obligations.RestoreCompletes := by
  intro s hsampling hres hempty
  have hexec : exec .restoreComplete s = .next s.completeRestore.drive := rfl
  have hstore := State.completeRestore_store hsampling hres
  have hjournal := State.completeRestore_journal hsampling hres hempty
  have hfire := State.completeRestore_fire hsampling hres
  have hframe := State.completeRestore_frame hsampling hres
  have hrun := State.completeRestore_running hsampling hres
  have hportals := State.completeRestore_portal hsampling hres
  generalize s.completeRestore = u at hexec hstore hjournal hfire hframe hrun hportals
  have hrec : ∀ p : Fin 16, u.portalRec p = s.loadMirror.portalRec p := fun p => by
    simp only [State.portalRec, hstore]
  have hdriven : ∀ p : Fin 16, u.drive.portalRec p = s.loadMirror.portalRec p := hrec
  refine ⟨u.drive, hexec, (congrArg Store.phase hstore :), (congrArg Store.mirror hstore :),
    (congrArg Store.slots hstore :),
    hjournal, fun p => ?_, hfire, ?_⟩
  · have hportal : u.drive.portals[p] = s.loadMirror.begunPortal p := by
      rw [State.drive_portals, hportals]
    rw [State.drive_strike hrun, hportals, hportal, hdriven, hrec]
    obtain ⟨hleaf, hhold, hgrants, hpassages, hmoves, hunlock, hheld, hposition, hexit⟩ := s.loadMirror.begunPortal_fresh p
    refine ⟨hleaf, hhold, hgrants, hpassages, hmoves, hunlock, hheld, hposition, hexit,
      State.begunPortal_freed (t := s.loadMirror), ?_⟩
    rw [hleaf]
    split <;> simp
  · rw [State.drive, hframe]

end

end Sys2Proof.Machine

/-! PROOFS. Verifies: how programming goes on and ends, and what the mirror takes (R2, R11, R16, R20, R21, R23; log
entries 18 and 31). -/

namespace Sys2Proof.Machine

/-! ## What a number finds in a filtered or changed table -/

/-- A number all of whose entries stay finds what it found. -/
theorem findEntry_filter_kept {α : Type} {l : List (Nat × α)} {f : Nat × α → Bool} {n : Nat}
    (h : ∀ e ∈ l, e.1 = n → f e = true) : findEntry (l.filter f) n = findEntry l n := by
  induction l with
  | nil => rfl
  | cons e l ih =>
    have hrest := ih fun x hx => h x (List.mem_cons_of_mem e hx)
    by_cases hn : e.1 = n
    · simp [h e List.mem_cons_self hn, findEntry, hn]
    · cases hf : f e <;> simp [hf, findEntry, hn, hrest]

/-- A number none of whose entries stays finds nothing. -/
theorem findEntry_filter_dropped {α : Type} {l : List (Nat × α)} {f : Nat × α → Bool} {n : Nat}
    (h : ∀ e ∈ l, e.1 = n → f e = false) : findEntry (l.filter f) n = none := by
  induction l with
  | nil => rfl
  | cons e l ih =>
    have hrest := ih fun x hx => h x (List.mem_cons_of_mem e hx)
    by_cases hn : e.1 = n
    · simp [h e List.mem_cons_self hn, hrest]
    · cases hf : f e <;> simp [hf, findEntry, hn, hrest]

theorem Table.find?_put {α : Type} (t : Table α) (n k : Nat) (x : α) :
    (t.put n x).find? k = if k = n then some x else t.find? k := by
  split
  case isTrue h => rw [h, Table.find?_put_same]
  case isFalse h => exact Table.find?_put_other t n k x h

theorem Table.find?_erase {α : Type} (t : Table α) (n k : Nat) :
    (t.erase n).find? k = if k = n then none else t.find? k := by
  split
  case isTrue h => exact findEntry_filter_dropped fun e _ he => by simp [he, h]
  case isFalse h => exact findEntry_filter_kept fun e _ he => by simp [he, h]

theorem Table.find?_set {α : Type} (t : Table α) (n k : Nat) (x : Option α) :
    (t.set n x).find? k = if k = n then x else t.find? k := by
  cases x with
  | some y => exact t.find?_put n k y
  | none => exact t.find?_erase n k

/-- A mirror without the records of a slot still finds the ids that stood in other slots. -/
theorem Mirror.find?_dropSlot {m : Mirror} {k id : Nat}
    (h : ∀ e ∈ m.credentials.entries, e.2.slot = k → e.1 ≠ id) : (m.dropSlot k).find? id = m.credentials.find? id :=
  findEntry_filter_kept fun e he hid => by
    simpa using fun hslot => h e he hslot hid

/-- A credential put into a slot that held no other id is found under its id, and no other id changes. -/
theorem Mirror.find?_take_credential {m : Mirror} {k : Nat} {r : CredSlot}
    (hslot : ∀ x ∈ m.credentials.entries, x.2.slot = k → x.1 = r.id) (id : Nat) :
    (m.take (.credential k (some r))).credentials.find? id =
      if id = r.id then some { slot := k, record := r.record } else m.credentials.find? id := by
  refine (Table.find?_put _ _ _ _).trans ?_
  split
  case isTrue => rfl
  case isFalse hid => exact Mirror.find?_dropSlot fun e he hk heq => hid (heq.symm.trans (hslot e he hk))

/-! ## The verify of a slot (R11) -/

/-- Programming a slot changes the slots and the noted duplicates alone. -/
@[simp] theorem Store.program_frame (t : Store) (agrees : Bool) (w : SlotWrite) :
    (t.program agrees w).phase = t.phase ∧ (t.program agrees w).mirror = t.mirror ∧ (t.program agrees w).job = t.job
      ∧ (t.program agrees w).waiting = t.waiting ∧ (t.program agrees w).marks = t.marks
      ∧ (t.program agrees w).slots = t.slots.program agrees w :=
  ⟨rfl, rfl, rfl, rfl, rfl, rfl⟩

section
variable {s : State} {j : Job} {w : SlotWrite}

theorem State.slotVerified_agreeing (hjob : s.store.job = some j) (hslot : j.writes[j.verified]? = some w) :
    s.slotVerified true = State.slotAgrees { s with store := s.store.program true w } j := by
  simp [State.slotVerified, hjob, hslot]

theorem State.slotVerified_failing (hjob : s.store.job = some j) (hslot : j.writes[j.verified]? = some w) :
    s.slotVerified false = State.slotDisagrees { s with store := s.store.program false w } j := by
  simp [State.slotVerified, hjob, hslot]

theorem State.slotAgrees_more (hmore : j.verified + 1 < j.writes.length) :
    s.slotAgrees j =
      { s with store := { s.store with job := some { j with verified := j.verified + 1, retry := false } } } :=
  if_pos hmore

theorem State.slotAgrees_request (hlast : j.verified + 1 = j.writes.length) (htask : j.task = .request) :
    s.slotAgrees j = s.completeRequest j.writes := by
  simp [State.slotAgrees, hlast, htask]

theorem State.slotAgrees_writeBack {id : Nat} (hlast : j.verified + 1 = j.writes.length) (htask : j.task = .writeBack id) :
    s.slotAgrees j = s.endWriteBack id := by
  simp [State.slotAgrees, hlast, htask]

/-- A write-back that ends with nothing waiting leaves the Store READY. -/
theorem State.endWriteBack_idle (hwait : s.store.waiting = none) (id : Nat) :
    s.endWriteBack id = { s with store := { s.store.unmark id with phase := .ready, job := none } } := by
  simp only [State.endWriteBack, Store.finish_of_not_waiting (t := s.store.unmark id) hwait]

/-- A write-back that ends with a request waiting begins that request. -/
theorem State.endWriteBack_begins {ws : List SlotWrite} (hwait : s.store.waiting = some ws) (id : Nat) :
    s.endWriteBack id = { s with store := { s.store.unmark id with waiting := none }.begin .request ws } := by
  simp only [State.endWriteBack, Store.finish, Store.unmark, hwait]

/-! ## Budget write-back (R23) -/

/-- A write-back begins with the oldest marked credential and the record of the mirror. -/
theorem State.writeBack_ready {id : Nat} {rest : List Nat} {e : CredEntry} (hphase : s.store.phase = .ready)
    (hwp : s.pins.straps.storeWp = false) (hmarks : s.store.marks = id :: rest)
    (hfound : s.store.mirror.credentials.find? id = some e) :
    s.writeBack =
      { s with
        store := s.store.begin (.writeBack id) [.credential e.slot (some { id := id, record := e.record })] } := by
  simp [State.writeBack, hphase, hwp, hmarks, hfound]

theorem State.writeBack_protected (hwp : s.pins.straps.storeWp = true) : s.writeBack = s := by
  simp [State.writeBack, hwp]

theorem exec_budgetWriteBack (hrun : s.running = true) : exec .budgetWriteBack s = done s.writeBack :=
  congrArg done (whenRunning_of_running hrun State.writeBack)

/-- Settles O32: the beginning by the oldest mark, the wait by STORE_WP, the end by the verify of the one slot. -/
theorem budgetWriteBackRuns : Obligations.BudgetWriteBackRuns := by
  intro s id rest e hrun hmarks hfound
  refine ⟨fun hphase hwp => ?begins, fun hwp => ?waits, fun hwait hjob => ?ends⟩
  case begins =>
    rw [exec_budgetWriteBack hrun]
    exact done_of_eq (State.writeBack_ready hphase hwp hmarks hfound)
  case waits =>
    rw [exec_budgetWriteBack hrun]
    exact done_of_eq (State.writeBack_protected hwp)
  case ends =>
    refine ⟨_, exec_slotVerified_running hrun true, ?_⟩
    rw [State.slotVerified_agreeing hjob rfl, State.slotAgrees_writeBack rfl rfl, State.endWriteBack_idle (by exact hwait)]
    exact ⟨rfl, rfl, by simp [Store.unmark], rfl, rfl, rfl⟩

end

/-! ## Completion of a request from which no credential leaves -/

/-- A completion that hands no credential over: the mirror takes the records, and the owners take them up. -/
theorem State.completeRequest_of_none_gone {s : State} {writes : List SlotWrite}
    (hgone : goneIds s.store.mirror (writes.foldl Mirror.take s.store.mirror) = []) {u : State}
    (htaken : writes.foldl (takeUpWrite s.store.mirror) (s.modMirror (writes.foldl Mirror.take ·)) = u)
    (hwait : u.store.waiting = none) :
    s.completeRequest writes =
      { u with
        store := { u.store with phase := .ready, job := none }
        office := { u.office with busy := false, reply := some ⟨.ok, []⟩ } } := by
  have hnone : goneIds s.store.mirror (s.modMirror (writes.foldl Mirror.take ·)).store.mirror = [] := hgone
  simp only [State.completeRequest, hnone, List.foldl_nil, htaken, Store.finish_of_not_waiting hwait]
  rfl

/-- The slots whose records no block takes up and which hold no credential. -/
def SlotWrite.Silent (v : SlotWrite) : Prop :=
  (∃ n r, v = .unit n r) ∨ (∃ n r, v = .tenancy n r) ∨ (∃ n r, v = .profile n r) ∨ ∃ days, v = .holidays days

section
variable {v : SlotWrite}

theorem SlotWrite.Silent.takeUp (h : v.Silent) (before : Mirror) (s : State) : takeUpWrite before s v = s := by
  obtain ⟨n, r, rfl⟩ | ⟨n, r, rfl⟩ | ⟨n, r, rfl⟩ | ⟨days, rfl⟩ := h <;> rfl

theorem SlotWrite.Silent.credentials (h : v.Silent) (m : Mirror) : (m.take v).credentials = m.credentials := by
  obtain ⟨n, r, rfl⟩ | ⟨n, r, rfl⟩ | ⟨n, r, rfl⟩ | ⟨days, rfl⟩ := h <;> rfl

theorem SlotWrite.Silent.program (h : v.Silent) (t : Store) :
    t.program true v = { t with slots := t.slots.program true v } := by
  obtain ⟨n, r, rfl⟩ | ⟨n, r, rfl⟩ | ⟨n, r, rfl⟩ | ⟨days, rfl⟩ := h <;> rfl

theorem foldl_takeUp_silent {writes : List SlotWrite} (h : ∀ v ∈ writes, v.Silent) (before : Mirror) (s : State) :
    writes.foldl (takeUpWrite before) s = s := by
  induction writes with
  | nil => rfl
  | cons v writes ih =>
    rw [List.foldl_cons, (h v List.mem_cons_self).takeUp]
    exact ih fun x hx => h x (List.mem_cons_of_mem v hx)

theorem foldl_take_silent {writes : List SlotWrite} (h : ∀ v ∈ writes, v.Silent) (m : Mirror) :
    (writes.foldl Mirror.take m).credentials = m.credentials := by
  induction writes generalizing m with
  | nil => rfl
  | cons v writes ih =>
    rw [List.foldl_cons, ih (fun x hx => h x (List.mem_cons_of_mem v hx)), (h v List.mem_cons_self).credentials]

end

/-- A completed request of silent slots changes the mirror alone. -/
theorem State.completeRequest_silent {s : State} {writes : List SlotWrite} (h : ∀ v ∈ writes, v.Silent)
    (hwait : s.store.waiting = none) :
    s.completeRequest writes =
      { s with
        store := { s.store with phase := .ready, job := none, mirror := writes.foldl Mirror.take s.store.mirror }
        office := { s.office with busy := false, reply := some ⟨.ok, []⟩ } } :=
  State.completeRequest_of_none_gone (goneIds_of_credentials_eq (foldl_take_silent h _)) (foldl_takeUp_silent h _ _) hwait

/-- A car takes up a record: a landing that the record does not have becomes unknown (R21, R125). -/
theorem Car.takeUp_eq (u : Car) (r : CarRec) :
    u.takeUp r =
      { u with landing := match u.landing with | some n => if n < r.landings then some n else none | none => none } := by
  unfold Car.takeUp
  cases hl : u.landing with
  | none => simp [← hl]
  | some n =>
    by_cases h : n < r.landings
    · simp [h, ← hl]
    · simp [h]

/-- What a put credential changes in the roster: its holder's tenancy, where the kind or the tenancy changes (R16). -/
def State.retenanted (s : State) (before : Mirror) (r : CredSlot) : List RosterEntry :=
  match before.credentials.find? r.id with
  | some old =>
    if old.record.kind = r.record.kind ∧ old.record.tenancy = r.record.tenancy then s.roster
    else s.roster.map (fun e => if e.id = r.id then { e with tenancy := r.record.tenancy } else e)
  | none => s.roster

theorem State.takeUpCredential_eq (s : State) (before : Mirror) (r : CredSlot) :
    s.takeUpCredential before r = { s with store := s.store.unmark r.id, roster := s.retenanted before r } := by
  unfold State.takeUpCredential State.retenanted
  cases before.credentials.find? r.id with
  | none => rfl
  | some old =>
    by_cases h : old.record.kind = r.record.kind ∧ old.record.tenancy = r.record.tenancy
    · simp [h]
    · simp only [Bool.and_eq_true, decide_eq_true_eq, if_neg h]
      rfl

/-- No credential leaves a mirror that takes one into a slot that held no other id. -/
theorem goneIds_take_credential {m : Mirror} {k : Nat} {r : CredSlot}
    (hslot : ∀ x ∈ m.credentials.entries, x.2.slot = k → x.1 = r.id) :
    goneIds m (m.take (.credential k (some r))) = [] := by
  have hkept : ∀ e ∈ m.credentials.entries,
      ((m.take (.credential k (some r))).credentials.find? e.1).isSome = true := by
    intro e he
    rw [Mirror.find?_take_credential hslot]
    split
    · rfl
    · exact findEntry_isSome he
  simpa [goneIds, List.filter_eq_nil_iff, Option.isSome_iff_ne_none] using hkept

/-- A PUT_CAR completes: the mirror takes the record, and the Car Unit takes it up. -/
theorem State.completeRequest_car {s : State} (hwait : s.store.waiting = none) (c : Fin 4) (r : CarRec) :
    s.completeRequest [.car c r] =
      { s with
        store :=
          { s.store with
            phase := .ready, job := none, mirror := { s.store.mirror with cars := s.store.mirror.cars.set c r } }
        cars :=
          s.cars.set c
            { s.cars[c] with
              landing :=
                match s.cars[c].landing with
                | some n => if n < r.landings then some n else none
                | none => none }
        office := { s.office with busy := false, reply := some ⟨.ok, []⟩ } } := by
  rw [← Car.takeUp_eq]
  exact State.completeRequest_of_none_gone (writes := [.car c r])
    (u := State.modCar (s.modMirror (fun m => { m with cars := m.cars.set c r })) c (·.takeUp r))
    (goneIds_of_credentials_eq rfl) rfl hwait

/-- A PUT_CREDENTIAL completes: the mirror takes the record, the mark is discarded, and the holder's entry takes the
tenancy. -/
theorem State.completeRequest_credential {s : State} {k : Nat} {r : CredSlot} (hwait : s.store.waiting = none)
    (hheld : ∀ x ∈ s.store.mirror.credentials.entries, x.2.slot = k → x.1 = r.id) :
    s.completeRequest [.credential k (some r)] =
      { s with
        store :=
          { s.store with
            phase := .ready, job := none, mirror := s.store.mirror.take (.credential k (some r))
            marks := s.store.marks.filter (fun n => n != r.id) }
        roster := s.retenanted s.store.mirror r
        office := { s.office with busy := false, reply := some ⟨.ok, []⟩ } } :=
  State.completeRequest_of_none_gone (writes := [.credential k (some r)]) (goneIds_take_credential hheld)
    (State.takeUpCredential_eq _ _ _) hwait

/-- The verify of a job of one slot is that of its last slot. -/
theorem single_write {j : Job} {v w : SlotWrite} (hwrites : j.writes = [v]) (hslot : j.writes[j.verified]? = some w) :
    j.verified + 1 = j.writes.length ∧ w = v := by
  rw [hwrites, List.getElem?_singleton] at hslot
  split at hslot
  case isTrue h => exact ⟨by simp [hwrites, h], (Option.some.inj hslot).symm⟩
  case isFalse => exact nomatch hslot

/-- Settles O28: a verify by its place in the job, a completion by the owners of its records, and what the mirror takes
record by record. -/
theorem putsComplete : Obligations.PutsComplete := by
  refine ⟨fun s j w hrun hjob hslot => ⟨?more, ?silent, ?car, ?credential, ?writeBack⟩,
    fun m => ⟨fun n k r => Table.find?_put _ n k r, fun n k r => Table.find?_set _ n k r,
      fun n k r => Table.find?_put _ n k r, fun days => rfl, fun k id r hheld => Mirror.find?_take_credential hheld id⟩⟩
  case more =>
    intro hmore
    rw [exec_slotVerified_running hrun, State.slotVerified_agreeing hjob hslot, State.slotAgrees_more hmore]
  case silent =>
    intro hlast htask hwait hsilent
    have hw : w.Silent := hsilent w (List.mem_of_getElem? hslot)
    rw [exec_slotVerified_running hrun, State.slotVerified_agreeing hjob hslot, State.slotAgrees_request hlast htask,
      State.completeRequest_silent hsilent (by exact hwait), hw.program]
  case car =>
    intro c r hwrites htask hwait
    obtain ⟨hlast, rfl⟩ := single_write hwrites hslot
    rw [exec_slotVerified_running hrun, State.slotVerified_agreeing hjob hslot, State.slotAgrees_request hlast htask,
      hwrites, State.completeRequest_car (by exact hwait)]
    rfl
  case credential =>
    intro k r hwrites htask hwait hheld
    obtain ⟨hlast, rfl⟩ := single_write hwrites hslot
    rw [exec_slotVerified_running hrun, State.slotVerified_agreeing hjob hslot, State.slotAgrees_request hlast htask,
      hwrites, State.completeRequest_credential (by exact hwait) (by exact hheld)]
    rfl
  case writeBack =>
    intro id ws htask hlast hwait
    refine ⟨_, exec_slotVerified_running hrun true, ?_⟩
    rw [State.slotVerified_agreeing hjob hslot, State.slotAgrees_writeBack hlast htask,
      State.endWriteBack_begins (by exact hwait)]
    exact ⟨rfl, rfl, rfl, rfl, rfl⟩

end Sys2Proof.Machine

/-! PROOFS. Sequences: what a run of one operation over a list leaves: changes at every portal or car, records appended one
after another, and referrals resolved one after another (R89, R91, R131, R138, R142, R143). -/

namespace Sys2Proof.Machine

/-! ## One change at every portal, or at every car -/

theorem foldl_modPortal_get (f : Portal → Portal) {l : List (Fin 16)} (hl : l.Nodup) (s : State) (q : Fin 16) :
    (l.foldl (fun t p => t.modPortal p f) s).portals[q] = if q ∈ l then f s.portals[q] else s.portals[q] := by
  induction l generalizing s with
  | nil => rfl
  | cons p l ih =>
    obtain ⟨hp, hl⟩ := List.nodup_cons.mp hl
    rw [List.foldl_cons, ih hl, State.modPortal_get]
    by_cases hq : p = q
    · subst hq
      simp [hp]
    · simp [hq, Ne.symm hq]

theorem foldl_modPortal_frame (f : Portal → Portal) (l : List (Fin 16)) (s : State) :
    ∃ v, l.foldl (fun t p => t.modPortal p f) s = { s with portals := v } := by
  induction l generalizing s with
  | nil => exact ⟨s.portals, rfl⟩
  | cons p l ih => exact ih (s.modPortal p f)

/-- A change at every portal. -/
theorem foldl_modPortal_all (f : Portal → Portal) (s : State) (q : Fin 16) :
    (allPortals.foldl (fun t p => t.modPortal p f) s).portals[q] = f s.portals[q] :=
  (foldl_modPortal_get f (by decide) s q).trans (if_pos (mem_allPortals q))

theorem State.modCar_get (s : State) (c d : Fin 4) (f : Car → Car) :
    (s.modCar c f).cars[d] = if c = d then f s.cars[c] else s.cars[d] := by
  split
  case isTrue h => exact h ▸ s.modCar_self c f
  case isFalse h => exact s.modCar_other c d f h

theorem foldl_modCar_get (f : Car → Car) {l : List (Fin 4)} (hl : l.Nodup) (s : State) (d : Fin 4) :
    (l.foldl (fun t c => t.modCar c f) s).cars[d] = if d ∈ l then f s.cars[d] else s.cars[d] := by
  induction l generalizing s with
  | nil => rfl
  | cons c l ih =>
    obtain ⟨hc, hl⟩ := List.nodup_cons.mp hl
    rw [List.foldl_cons, ih hl, State.modCar_get]
    by_cases hd : c = d
    · subst hd
      simp [hc]
    · simp [hd, Ne.symm hd]

theorem foldl_modCar_frame (f : Car → Car) (l : List (Fin 4)) (s : State) :
    ∃ v, l.foldl (fun t c => t.modCar c f) s = { s with cars := v } := by
  induction l generalizing s with
  | nil => exact ⟨s.cars, rfl⟩
  | cons c l ih => exact ih (s.modCar c f)

/-- A change at every car. -/
theorem foldl_modCar_all (f : Car → Car) (s : State) (d : Fin 4) :
    (allCars.foldl (fun t c => t.modCar c f) s).cars[d] = f s.cars[d] :=
  (foldl_modCar_get f (by decide) s d).trans (if_pos (by revert d; decide))

/-! ## Records one after another -/

theorem State.blankRecord_congr {s t : State} (h : t.clock = s.clock) (k : Kind) : t.blankRecord k = s.blankRecord k := by
  simp only [State.blankRecord, h]

/-- Into a journal with room a record goes at the end. -/
theorem State.append_journal_of_room {s : State} (r : Record) (hroom : s.journal.length < 512) :
    (s.append r).journal = s.journal ++ [r] := by
  rw [State.append_journal, if_pos hroom]

/-- A run of steps that append one record each, by the present time, appends the records in order. -/
theorem foldl_journal {α : Type} {f : State → α → State} {r : α → Record} {s : State}
    (hclock : ∀ t a, (f t a).clock = t.clock)
    (happend : ∀ t a, t.clock = s.clock → t.journal.length < 512 → (f t a).journal = t.journal ++ [r a]) (l : List α)
    (hroom : s.journal.length + l.length ≤ 512) : (l.foldl f s).journal = s.journal ++ l.map r := by
  suffices h : ∀ (l : List α) (t : State), t.clock = s.clock → t.journal.length + l.length ≤ 512 →
      (l.foldl f t).journal = t.journal ++ l.map r from h l s rfl hroom
  intro l
  induction l with
  | nil => simp
  | cons a l ih =>
    intro t ht hfits
    rw [List.length_cons] at hfits
    have hstep := happend t a ht (by omega)
    rw [List.foldl_cons, ih (f t a) ((hclock t a).trans ht) (by rw [hstep, List.length_append, List.length_singleton]; omega),
      hstep, List.map_cons, List.append_assoc, List.singleton_append]

/-- The NOT_USED record of a move that portal `p` discards (R89). -/
def State.notUsedRecord (s : State) (p : Fin 16) (m : Move) : Record :=
  { s.blankRecord .notUsed with subject := some p.val, id := some m.id, ticket := m.ticket }

/-- Discarded moves have their NOT_USED records in list order. -/
theorem State.discardAll_journal {s : State} {p : Fin 16} {ms : List Move}
    (hroom : s.journal.length + ms.length ≤ 512) :
    (s.discardAll p ms).journal = s.journal ++ ms.map (s.notUsedRecord p) := by
  refine foldl_journal (fun t m => by simp) (fun t m ht hfits => ?_) ms hroom
  rw [State.append_journal_of_room _ hfits, State.blankRecord_congr ht]
  rfl

/-! ## Referrals resolved one after another (R138, R142, R143) -/

/-- The REFERRAL_OUTCOME record of an entry resolved with an outcome (R138). -/
def State.resolutionRecord (s : State) (o : EntryOutcome) (e : Referral) : Record :=
  s.outcomeRecord e (.entry o) o.reason o.count

theorem State.outcomeRecord_congr {s t : State} (h : t.clock = s.clock) (e : Referral) (o : JournalOutcome)
    (r : Option Reason) (n : Option Nat) : t.outcomeRecord e o r n = s.outcomeRecord e o r n := by
  simp only [State.outcomeRecord, State.blankRecord_congr h]

theorem State.resolve_getLast? (s : State) (e : Referral) (o : EntryOutcome) :
    (s.resolve e o).journal.getLast? = some (s.resolutionRecord o e) := by
  rw [State.resolve, State.raise_journal, State.append_getLast?]
  rfl

theorem State.resolve_journal {s : State} (e : Referral) (o : EntryOutcome) (hroom : s.journal.length < 512) :
    (s.resolve e o).journal = s.journal ++ [s.resolutionRecord o e] := by
  rw [State.resolve, State.raise_journal, State.append_journal_of_room _ (by exact hroom)]
  rfl

@[simp] theorem State.resolve_referrals (s : State) (e : Referral) (o : EntryOutcome) :
    (s.resolve e o).referrals = s.referrals.map (resolveIn e.ticket o) := by
  simp [State.resolve]

/-- A resolution raises OUTCOME_READY on the Field Port. -/
theorem State.resolve_field (s : State) (e : Referral) (o : EntryOutcome) :
    (s.resolve e o).field = { s.field with flags := s.field.flags ||| 0x1000 } := by
  have hbit : Flag.outcomeReady.bit = 0x1000 := rfl
  simp [State.resolve, State.raise, State.modPort, hbit]

theorem State.resolveAll_journal {s : State} {es : List Referral} {o : EntryOutcome}
    (hroom : s.journal.length + es.length ≤ 512) :
    (s.resolveAll es o).journal = s.journal ++ es.map (s.resolutionRecord o) := by
  refine foldl_journal (fun t e => by simp) (fun t e ht hfits => ?_) es hroom
  rw [State.resolve_journal e o hfits]
  exact congrArg (t.journal ++ [·]) (State.outcomeRecord_congr ht e _ _ _)

/-- An entry keeps its ticket, its reader and its id as others and itself are resolved. -/
@[simp] theorem resolveIn_kept (n : Nat) (o : EntryOutcome) (e : Referral) :
    (resolveIn n o e).ticket = e.ticket ∧ (resolveIn n o e).reader = e.reader ∧ (resolveIn n o e).id = e.id := by
  unfold resolveIn
  split <;> exact ⟨rfl, rfl, rfl⟩

/-- The entries with a resolved ticket are RESOLVED, and the others stay. -/
theorem State.resolveAll_referrals (s : State) (es : List Referral) (o : EntryOutcome) :
    (s.resolveAll es o).referrals =
      s.referrals.map (fun x => if x.ticket ∈ es.map (·.ticket) then { x with state := .resolved o } else x) := by
  unfold State.resolveAll
  induction es generalizing s with
  | nil => simp
  | cons e es ih =>
    rw [List.foldl_cons, ih, State.resolve_referrals, List.map_map]
    refine List.map_congr_left fun x _ => ?_
    simp only [Function.comp_apply, (resolveIn_kept e.ticket o x).1, List.map_cons, List.mem_cons]
    by_cases hx : x.ticket = e.ticket
    · simp [resolveIn, hx]
    · simp [resolveIn, hx]

theorem State.resolveAll_field (s : State) (es : List Referral) (o : EntryOutcome) :
    (s.resolveAll es o).field =
      if es = [] then s.field else { s.field with flags := s.field.flags ||| 0x1000 } := by
  unfold State.resolveAll
  induction es generalizing s with
  | nil => rfl
  | cons e es ih =>
    rw [List.foldl_cons, ih, State.resolve_field, if_neg (List.cons_ne_nil e es)]
    split
    · rfl
    · simp [BitVec.or_assoc]

/-- Under distinct tickets, resolving the PENDING entries that a test picks resolves exactly them. -/
theorem State.resolvePicked_referrals {s : State} (hdistinct : (s.referrals.map (·.ticket)).Nodup)
    (f : Referral → Bool) (o : EntryOutcome) :
    (s.resolveAll (s.referrals.filter f) o).referrals =
      s.referrals.map (fun x => if f x then { x with state := .resolved o } else x) := by
  rw [State.resolveAll_referrals]
  refine List.map_congr_left fun x hx => ?_
  have hpicked : x.ticket ∈ (s.referrals.filter f).map (·.ticket) ↔ f x = true := by
    simp only [List.mem_map, List.mem_filter]
    constructor
    · rintro ⟨y, ⟨hy, hfy⟩, hticket⟩
      rwa [← List.inj_on_of_nodup_map hdistinct hy hx hticket]
    · exact fun hfx => ⟨x, ⟨hx, hfx⟩, rfl⟩
  simp only [hpicked]

/-- None of the PENDING entries that a test picks is left PENDING, whatever the tickets are. -/
theorem State.resolvePicked_pending {s : State} {g : Referral → Bool} {o : EntryOutcome} {x : Referral}
    (hx : x ∈ (s.resolveAll (s.referrals.filter (fun e => e.isPending && g e)) o).referrals) (hstate : x.state = .pending) :
    g x = false := by
  rw [State.resolveAll_referrals] at hx
  obtain ⟨y, hy, rfl⟩ := List.mem_map.mp hx
  split at hstate
  case isTrue => exact nomatch hstate
  case isFalse hpicked =>
    rw [if_neg hpicked]
    refine Bool.eq_false_iff.mpr fun hg => hpicked (List.mem_map.mpr ⟨y, List.mem_filter.mpr ⟨hy, ?_⟩, rfl⟩)
    simp [Referral.isPending, hstate, hg]

/-- A resolution leaves no PENDING entry where there was none. -/
theorem State.resolve_pending {s : State} {e x : Referral} {o : EntryOutcome} (hx : x ∈ (s.resolve e o).referrals)
    (hstate : x.state = .pending) : x ∈ s.referrals := by
  rw [State.resolve_referrals] at hx
  obtain ⟨y, hy, rfl⟩ := List.mem_map.mp hx
  unfold resolveIn at hstate ⊢
  split at hstate
  case isTrue => exact nomatch hstate
  case isFalse hother => rwa [if_neg hother]

theorem State.resolveAll_pending {s : State} {es : List Referral} {x : Referral} {o : EntryOutcome}
    (hx : x ∈ (s.resolveAll es o).referrals) (hstate : x.state = .pending) : x ∈ s.referrals := by
  unfold State.resolveAll at hx
  induction es generalizing s with
  | nil => exact hx
  | cons e es ih => exact State.resolve_pending (ih hx) hstate

end Sys2Proof.Machine

/-! PROOFS. HandOver: what the owners lose with a credential that leaves the mirror, and the completion of DROP_CREDENTIAL
(R17, R81, R91, R131, R143; log entry 32). -/

namespace Sys2Proof.Machine

/-! ## Numbers of a table in canonical form -/

/-- In a rising list every number lies above the bound, and none stands twice. -/
theorem risingFrom_keys {α : Type} {b : Nat} {l : List (Nat × α)} (h : risingFrom (some b) l = true) :
    (∀ e ∈ l, b < e.1) ∧ (l.map (·.1)).Nodup := by
  induction l generalizing b with
  | nil => simp
  | cons e l ih =>
    simp only [risingFrom, Bool.and_eq_true, decide_eq_true_eq] at h
    obtain ⟨habove, hnodup⟩ := ih h.2
    refine ⟨?_, List.nodup_cons.mpr ⟨fun hmem => ?_, hnodup⟩⟩
    · intro x hx
      rcases List.mem_cons.mp hx with rfl | hx
      · exact h.1
      · exact h.1.trans (habove x hx)
    · obtain ⟨x, hx, heq⟩ := List.mem_map.mp hmem
      exact absurd (habove x hx) (by rw [heq]; exact lt_irrefl _)

theorem Table.keys_nodup {α : Type} {t : Table α} (h : t.wf = true) : (t.entries.map (·.1)).Nodup := by
  unfold Table.wf at h
  cases hl : t.entries with
  | nil => exact List.nodup_nil
  | cons e l =>
    simp only [hl, risingFrom] at h
    obtain ⟨habove, hnodup⟩ := risingFrom_keys h
    exact List.nodup_cons.mpr ⟨fun hmem => by
      obtain ⟨x, hx, heq⟩ := List.mem_map.mp hmem
      exact absurd (habove x hx) (by rw [heq]; exact lt_irrefl _), hnodup⟩

theorem findEntry_mem {α : Type} {l : List (Nat × α)} {n : Nat} {x : α} (h : findEntry l n = some x) : (n, x) ∈ l := by
  induction l with
  | nil => exact nomatch h
  | cons e l ih =>
    obtain ⟨k, y⟩ := e
    simp only [findEntry] at h
    split at h
    case isTrue hk => exact hk ▸ Option.some.inj h ▸ List.mem_cons_self
    case isFalse => exact List.mem_cons_of_mem _ (ih h)

/-- In a table of canonical form the entries of a number are the one that is found. -/
theorem Table.eq_of_find? {α : Type} {t : Table α} (hwf : t.wf = true) {n : Nat} {x : α} (h : t.find? n = some x)
    {e : Nat × α} (he : e ∈ t.entries) (hn : e.1 = n) : e = (n, x) :=
  List.inj_on_of_nodup_map (Table.keys_nodup hwf) he (findEntry_mem h) hn

/-! ## One credential handed over -/

theorem State.entryOf_eq_none {s : State} {id : Nat} : s.entryOf id = none ↔ ∀ e ∈ s.roster, e.id ≠ id := by
  simp [State.entryOf, List.find?_eq_none]

theorem State.dropFromRoster_of_entry {s : State} {id : Nat} (h : s.entryOf id ≠ none) :
    s.dropFromRoster id = (s.removeEntry id).noteDropped (some id) 1 :=
  if_pos (Option.isSome_iff_ne_none.mpr h)

theorem State.dropFromRoster_of_none {s : State} {id : Nat} (h : s.entryOf id = none) : s.dropFromRoster id = s :=
  if_neg (by simp [h])

theorem State.dropFromRoster_roster (s : State) (id : Nat) :
    (s.dropFromRoster id).roster = s.roster.filter (fun e => e.id != id) := by
  by_cases h : s.entryOf id = none
  · rw [State.dropFromRoster_of_none h, List.filter_eq_self.mpr]
    exact fun e he => bne_iff_ne.mpr (State.entryOf_eq_none.mp h e he)
  · rw [State.dropFromRoster_of_entry h, State.noteDropped, State.append_roster, State.removeEntry_roster]

/-- A car that has settled its session settles nothing more. -/
theorem Car.settleSession_settled (u : Car) : u.settleSession.settleSession = u.settleSession := by
  unfold Car.settleSession
  split <;> simp

/-- A passenger that has been removed is not removed again. -/
theorem Car.remove_removed (u : Car) (id : Nat) : (u.remove id).remove id = u.remove id := by
  have hgone : { u.remove id with passengers := (u.remove id).passengers.filter (fun q => q.id != id) } = u.remove id := by
    rw [Car.remove_passengers, List.filter_filter]
    simp only [Bool.and_self]
    rw [← Car.remove_passengers]
  rw [Car.remove, hgone, Car.remove, Car.settleSession_settled]

/-- What a removed passenger leaves of its car: the others, and the session as long as one of them rides. -/
theorem Car.remove_eq (u : Car) (id : Nat) :
    (u.remove id).passengers = u.passengers.filter (fun q => q.id != id)
      ∧ ((u.remove id).passengers = [] → (u.remove id).session = .closed ∧ (u.remove id).timer = none)
      ∧ ((u.remove id).passengers ≠ [] → (u.remove id).session = u.session ∧ (u.remove id).timer = u.timer)
      ∧ (u.remove id).landing = u.landing := by
  refine ⟨u.remove_passengers id, ?_⟩
  rw [Car.remove_passengers]
  unfold Car.remove Car.settleSession
  split
  case isTrue h => exact ⟨fun _ => ⟨rfl, rfl⟩, fun hne => absurd (List.isEmpty_iff.mp h) hne, rfl⟩
  case isFalse h => exact ⟨fun hempty => absurd (List.isEmpty_iff.mpr hempty) h, fun _ => ⟨rfl, rfl⟩, rfl⟩

theorem State.dropFromRoster_car (s : State) (id : Nat) (c : Fin 4) :
    (s.dropFromRoster id).cars[c].remove id = s.cars[c].remove id := by
  by_cases h : s.entryOf id = none
  · rw [State.dropFromRoster_of_none h]
  · rw [State.dropFromRoster_of_entry h, State.noteDropped]
    simp only [State.append_cars]
    cases hcar : (s.entryOf id).bind (·.car) with
    | none => rw [State.removeEntry_of_no_car hcar]
    | some d =>
      rw [State.removeEntry_of_car hcar, State.modCar_get]
      split
      case isTrue hd => exact hd ▸ Car.remove_removed _ id
      case isFalse => rfl

/-- The state in which the Roster, the portals and the cars have lost a credential, before the queue has. -/
def State.unheld (s : State) (id : Nat) : State :=
  allCars.foldl (fun t c => t.modCar c (·.remove id)) ((s.dropFromRoster id).dropMoves id)

theorem State.handOff_eq (s : State) (id : Nat) :
    s.handOff id =
      { (s.unheld id).cancelReferrals id with store := ((s.unheld id).cancelReferrals id).store.unmark id } :=
  rfl

/-- A portal without the moves of a credential. -/
def Portal.withoutMoves (id : Nat) (q : Portal) : Portal := { q with moves := q.moves.filter (fun m => m.id != id) }

theorem State.unheld_frame (s : State) (id : Nat) :
    ∃ v w, s.unheld id = { s.dropFromRoster id with portals := v, cars := w } := by
  obtain ⟨v, hv⟩ := foldl_modPortal_frame (Portal.withoutMoves id) allPortals (s.dropFromRoster id)
  obtain ⟨w, hw⟩ := foldl_modCar_frame (·.remove id) allCars ((s.dropFromRoster id).dropMoves id)
  exact ⟨v, w, hw.trans (by rw [State.dropMoves]; exact congrArg (fun t : State => { t with cars := w }) hv)⟩

theorem State.unheld_portal (s : State) (id : Nat) (p : Fin 16) :
    (s.unheld id).portals[p] = s.portals[p].withoutMoves id := by
  have hcars : (s.unheld id).portals = ((s.dropFromRoster id).dropMoves id).portals := by
    obtain ⟨w, hw⟩ := foldl_modCar_frame (·.remove id) allCars ((s.dropFromRoster id).dropMoves id)
    rw [State.unheld, hw]
  have hportals := foldl_modPortal_all (Portal.withoutMoves id) (s.dropFromRoster id) p
  simp only [hcars, State.dropMoves]
  refine hportals.trans ?_
  simp

theorem State.unheld_car (s : State) (id : Nat) (c : Fin 4) : (s.unheld id).cars[c] = s.cars[c].remove id := by
  refine (foldl_modCar_all (·.remove id) _ c).trans ?_
  obtain ⟨v, hv⟩ := foldl_modPortal_frame (Portal.withoutMoves id) allPortals (s.dropFromRoster id)
  have hcars : ((s.dropFromRoster id).dropMoves id).cars = (s.dropFromRoster id).cars := (congrArg State.cars hv :)
  simp only [hcars]
  exact s.dropFromRoster_car id c

section
variable (s : State) (id : Nat)

theorem State.handOff_portal (p : Fin 16) : (s.handOff id).portals[p] = s.portals[p].withoutMoves id := by
  rw [State.handOff_eq]
  simp only [State.cancelReferrals_frame]
  exact s.unheld_portal id p

theorem State.handOff_car (c : Fin 4) : (s.handOff id).cars[c] = s.cars[c].remove id := by
  rw [State.handOff_eq]
  simp only [State.cancelReferrals_frame]
  exact s.unheld_car id c

theorem State.handOff_roster : (s.handOff id).roster = s.roster.filter (fun e => e.id != id) := by
  obtain ⟨v, w, h⟩ := s.unheld_frame id
  rw [State.handOff_eq, h]
  simp [State.dropFromRoster_roster]

theorem State.handOff_store : (s.handOff id).store = s.store.unmark id := by
  obtain ⟨v, w, h⟩ := s.unheld_frame id
  rw [State.handOff_eq, h]
  simp

/-- The referrals, once the PENDING ones of the credential are resolved. -/
theorem State.handOff_referrals :
    (s.handOff id).referrals =
      (s.resolveAll (s.referrals.filter (fun e => e.isPending && e.id == id)) .cancelled).referrals := by
  obtain ⟨v, w, h⟩ := s.unheld_frame id
  rw [State.handOff_eq, h]
  simp only [State.cancelReferrals, State.resolveAll_referrals, State.dropFromRoster_frame]

theorem State.handOff_field :
    (s.handOff id).field =
      if s.referrals.filter (fun e => e.isPending && e.id == id) = [] then s.field
      else { s.field with flags := s.field.flags ||| 0x1000 } := by
  obtain ⟨v, w, h⟩ := s.unheld_frame id
  rw [State.handOff_eq, h]
  simp only [State.cancelReferrals, State.resolveAll_field, State.dropFromRoster_frame]

/-- What a hand-over leaves alone. -/
theorem State.handOff_frame :
    (s.handOff id).pending = s.pending ∧ (s.handOff id).power = s.power ∧ (s.handOff id).pins = s.pins
      ∧ (s.handOff id).clock = s.clock ∧ (s.handOff id).ticketCounter = s.ticketCounter
      ∧ (s.handOff id).fire = s.fire ∧ (s.handOff id).outs = s.outs ∧ (s.handOff id).freeCount = s.freeCount := by
  obtain ⟨v, w, h⟩ := s.unheld_frame id
  rw [State.handOff_eq, h]
  simp

end

/-- The ROSTER_DROPPED record of an entry comes first, then the cancellations in list order (log entry 32). -/
theorem State.handOff_journal {s : State} {id : Nat}
    (hroom : s.journal.length + 1 + (s.referrals.filter (fun e => e.isPending && e.id == id)).length ≤ 512) :
    (s.handOff id).journal =
      s.journal
        ++ (if s.entryOf id = none then [] else [{ s.blankRecord .rosterDropped with id := some id, count := some 1 }])
        ++ (s.referrals.filter (fun e => e.isPending && e.id == id)).map (s.resolutionRecord .cancelled) := by
  have hdropped : (s.dropFromRoster id).journal =
      s.journal
        ++ (if s.entryOf id = none then [] else [{ s.blankRecord .rosterDropped with id := some id, count := some 1 }]) := by
    by_cases h : s.entryOf id = none
    · simp [State.dropFromRoster_of_none h, h]
    · rw [State.dropFromRoster_of_entry h, if_neg h, State.noteDropped,
        State.append_journal_of_room _ (by simp only [State.removeEntry_frame]; omega)]
      simp [State.blankRecord]
  have hlength : (s.dropFromRoster id).journal.length ≤ s.journal.length + 1 := by
    rw [hdropped]
    split <;> simp
  obtain ⟨v, w, h⟩ := s.unheld_frame id
  rw [State.handOff_eq, h, ← hdropped]
  simp only [State.cancelReferrals, State.dropFromRoster_frame]
  rw [State.resolveAll_journal (by simp only; omega)]
  refine congrArg ((s.dropFromRoster id).journal ++ ·) (List.map_congr_left fun e _ => ?_)
  exact State.outcomeRecord_congr (by simp) e _ _ _

/-! ## DROP_CREDENTIAL completes (R17) -/

/-- The slots that a DROP_CREDENTIAL erases. -/
def erasures (slots : List Nat) : List SlotWrite := slots.map (fun k => .credential k none)

theorem foldl_takeUp_erasures (slots : List Nat) (before : Mirror) (s : State) :
    (erasures slots).foldl (takeUpWrite before) s = s := by
  induction slots with
  | nil => rfl
  | cons k slots ih => exact ih

/-- The credentials of a mirror that takes erasures are those of no erased slot. -/
theorem foldl_take_erasures (slots : List Nat) (m : Mirror) :
    (erasures slots).foldl Mirror.take m =
      { m with credentials := ⟨m.credentials.entries.filter (fun e => !slots.contains e.2.slot)⟩ } := by
  induction slots generalizing m with
  | nil => simp [erasures]
  | cons k slots ih =>
    refine (ih (m.take (.credential k none))).trans ?_
    simp only [Mirror.take, Mirror.dropSlot, List.filter_filter, List.contains_cons, Bool.not_or]
    congr! 4
    rw [Bool.and_comm]
    rfl

section
variable {m : Mirror} {id : Nat} {e : CredEntry} {ds : List Nat}

/-- Erasing the slots of one credential leaves every other credential. -/
theorem Mirror.find?_erased (hwf : m.credentials.wf = true) (hfound : m.credentials.find? id = some e)
    (honly : ∀ x ∈ m.credentials.entries, x.2.slot ∈ e.slot :: ds → x.1 = id) (k : Nat) :
    ((erasures (e.slot :: ds)).foldl Mirror.take m).credentials.find? k =
      if k = id then none else m.credentials.find? k := by
  rw [foldl_take_erasures]
  split
  case isTrue hk =>
    refine findEntry_filter_dropped fun x hx hxk => ?_
    rw [Table.eq_of_find? hwf hfound hx (hxk.trans hk)]
    simp
  case isFalse hk =>
    refine findEntry_filter_kept fun x hx hxk => ?_
    rw [Bool.not_eq_true', ← Bool.not_eq_true, List.contains_iff_mem]
    exact fun hmem => hk (hxk.symm.trans (honly x hx hmem))

/-- The one id that leaves the mirror is that of the dropped credential. -/
theorem goneIds_erased (hwf : m.credentials.wf = true) (hfound : m.credentials.find? id = some e)
    (honly : ∀ x ∈ m.credentials.entries, x.2.slot ∈ e.slot :: ds → x.1 = id) :
    goneIds m ((erasures (e.slot :: ds)).foldl Mirror.take m) = [id] := by
  have hpicked : m.credentials.entries.filter
        (fun x => (((erasures (e.slot :: ds)).foldl Mirror.take m).credentials.find? x.1).isNone)
      = m.credentials.entries.filter (fun x => x.1 == id) := by
    refine List.filter_congr fun x hx => ?_
    rw [Mirror.find?_erased hwf hfound honly]
    by_cases hid : x.1 = id
    · simp [hid]
    · simp only [if_neg hid, beq_eq_false_iff_ne.mpr hid, Option.isNone_eq_false_iff]
      exact findEntry_isSome hx
  have hkeys := Table.keys_nodup hwf
  have hmem : id ∈ m.credentials.entries.map (·.1) := List.mem_map_of_mem (findEntry_mem hfound)
  calc goneIds m ((erasures (e.slot :: ds)).foldl Mirror.take m)
      = (m.credentials.entries.filter (fun x => x.1 == id)).map (·.1) := congrArg (List.map Prod.fst) hpicked
    _ = (m.credentials.entries.map (·.1)).filter (· == id) := by rw [List.filter_map]; rfl
    _ = [id] := by rw [List.filter_beq, List.count_eq_one_of_mem hkeys hmem, List.replicate_one]

end

/-- A PENDING entry of a credential, as the statements write it. -/
theorem Referral.isPending_iff {e : Referral} : e.isPending = true ↔ e.state = .pending := by
  simp [Referral.isPending]

/-- DROP_CREDENTIAL completes: the mirror loses the record, and the owners lose the credential. -/
theorem State.completeRequest_erasures {s : State} {id : Nat} {e : CredEntry} {ds : List Nat}
    (hwait : s.store.waiting = none) (hwf : s.store.mirror.credentials.wf = true)
    (hfound : s.store.mirror.credentials.find? id = some e)
    (honly : ∀ x ∈ s.store.mirror.credentials.entries, x.2.slot ∈ e.slot :: ds → x.1 = id) {t : State}
    (ht : t = State.handOff (s.modMirror ((erasures (e.slot :: ds)).foldl Mirror.take ·)) id) :
    s.completeRequest (erasures (e.slot :: ds)) =
      { t with
        store := { t.store with phase := .ready, job := none }
        office := { t.office with busy := false, reply := some ⟨.ok, []⟩ } } := by
  have hgone : goneIds s.store.mirror (s.modMirror ((erasures (e.slot :: ds)).foldl Mirror.take ·)).store.mirror = [id] :=
    goneIds_erased hwf hfound honly
  have hstill : t.store.waiting = none := by
    rw [ht, State.handOff_store]
    exact hwait
  simp only [State.completeRequest, foldl_takeUp_erasures, hgone, List.foldl_cons, List.foldl_nil, ← ht,
    Store.finish_of_not_waiting hstill]
  rfl

/-- Settles O30: the slots erased give the id that leaves, and its hand-over gives what the owners lose. -/
theorem credentialDropHandedOver : Obligations.CredentialDropHandedOver := by
  intro s id e ds j hrun hwait hjob htask hwrites hverified hwf hfound honly hqueue
  have hslots : j.writes = erasures (e.slot :: ds) := hwrites
  have hlength : j.writes.length = ds.length + 1 := by simp [hwrites]
  obtain ⟨w, hslot⟩ : ∃ w, j.writes[j.verified]? = some w :=
    ⟨_, List.getElem?_eq_getElem (by omega)⟩
  -- the state after the last verify, with the mirror that has taken the erasures
  obtain ⟨u, hu⟩ : ∃ u, u = State.modMirror { s with store := s.store.program true w }
      ((erasures (e.slot :: ds)).foldl Mirror.take ·) := ⟨_, rfl⟩
  have hcompleted := State.completeRequest_erasures (s := { s with store := s.store.program true w }) hwait hwf hfound honly
    (congrArg (State.handOff · id) hu)
  have hstore := State.handOff_store u id
  have hportal := State.handOff_portal u id
  have hcar := State.handOff_car u id
  have hroster := State.handOff_roster u id
  have hreferrals := State.handOff_referrals u id
  have hfield := State.handOff_field u id
  have hjournal := State.handOff_journal (s := u) (id := id)
  have hframe := State.handOff_frame u id
  rw [State.resolvePicked_referrals (by rw [hu]; exact hqueue.2.1)] at hreferrals
  have hpicked : u.referrals.filter (fun x => x.isPending && x.id == id)
      = s.referrals.filter (fun x => x.isPending && x.id == id) := by rw [hu]; rfl
  rw [hpicked] at hfield hjournal
  generalize u.handOff id = t at hcompleted hstore hportal hcar hroster hreferrals hfield hjournal hframe
  refine ⟨_, exec_slotVerified_running hrun true, ?_⟩
  rw [State.slotVerified_agreeing hjob hslot, State.slotAgrees_request (by omega) htask, hslots, hcompleted]
  refine ⟨fun k => ?_, rfl, rfl, ?_, fun v hv => ?_, rfl, rfl, ?_, fun p => ?_, fun c => ?_, ?_, fun hsome => ?_,
    fun hnone => ?_, fun hroom => ?_, ?_⟩
  · simp only [State.drive_store, hstore, hu]
    exact Mirror.find?_erased hwf hfound honly k
  · simp only [State.drive_store, hstore, hu]
    rfl
  · obtain rfl : w = v := Option.some.inj (hslot.symm.trans (hslots ▸ hv))
    simp only [State.drive_store, hstore, hu]
    rfl
  · simp only [State.drive_roster, hroster, hu]
    rfl
  · simp only [State.drive_portals, hportal, hu]
    rfl
  · simp only [State.drive_cars, hcar, hu]
    exact Car.remove_eq s.cars[c] id
  · simp only [State.drive_referrals, hreferrals, hu, State.modMirror_referrals]
    refine List.map_congr_left fun x _ => ?_
    simp [Referral.isPending_iff]
  · obtain ⟨x, hx, hstate, hid⟩ := hsome
    have hne : s.referrals.filter (fun x => x.isPending && x.id == id) ≠ [] :=
      List.ne_nil_of_mem (List.mem_filter.mpr ⟨hx, by simp [Referral.isPending, hstate, hid]⟩)
    simp only [State.drive_field, hfield, if_neg hne, hu, State.modMirror_field]
  · have hempty : s.referrals.filter (fun x => x.isPending && x.id == id) = [] :=
      List.filter_eq_nil_iff.mpr fun x hx => by simpa [Referral.isPending] using hnone x hx
    simp only [State.drive_field, hfield, if_pos hempty, hu, State.modMirror_field]
  · have hfits := List.length_filter_le (fun x : Referral => x.isPending && x.id == id) s.referrals
    have hlength : u.journal.length = s.journal.length := by rw [hu]; rfl
    simp only [State.drive_journal, hjournal (by omega), hu]
    refine congrArg₂ (· ++ ·) rfl (List.map_congr_left fun x hx => ?_)
    have hid : x.id = id := by simpa using (Bool.and_eq_true_iff.mp (List.mem_filter.mp hx).2).2
    rw [← hid]
    rfl
  · obtain ⟨hpending, hpower, hpins, hclock, hcounter, hfire, houts, hcount⟩ := hframe
    apply State.eq_of_fields <;> simp [*]

end Sys2Proof.Machine

/-! PROOFS. Faults: failed verifies, the mirror that a store fault rebuilds, and what is gone after it (R11, R24, R26; log
entries 17 and 19). -/

namespace Sys2Proof.Machine

/-! ## What the taking up of a changed mirror leaves -/

/-- The Store but for what a commit may spend: its credentials and its marks. -/
def Store.unspent (t : Store) : Store := { t with marks := [], mirror := { t.mirror with credentials := ⟨[]⟩ } }

/-- What no owner that takes up a changed mirror touches: the supplies, the pins, the clock, the reply of the Field Port and
the Store but for what a commit may spend. -/
def State.core (s : State) : Power × Pins × Clock × Option Reply × Store :=
  (s.power, s.pins, s.clock, s.field.reply, s.store.unspent)

theorem State.core_eq_iff {s t : State} :
    s.core = t.core ↔ s.power = t.power ∧ s.pins = t.pins ∧ s.clock = t.clock ∧ s.field.reply = t.field.reply
      ∧ s.store.unspent = t.store.unspent := by
  simp [State.core]

@[simp] theorem Store.unmark_unspent (t : Store) (id : Nat) : (t.unmark id).unspent = t.unspent := rfl

@[simp] theorem Store.mark_unspent (t : Store) (id : Nat) : (t.mark id).unspent = t.unspent := by
  unfold Store.mark
  split <;> rfl

section
variable (s : State)

@[simp] theorem State.modPortal_core (p : Fin 16) (f : Portal → Portal) : (s.modPortal p f).core = s.core := rfl

@[simp] theorem State.modCar_core (c : Fin 4) (f : Car → Car) : (s.modCar c f).core = s.core := rfl

@[simp] theorem State.raise_core (p : Port) (f : Flag) : (s.raise p f).core = s.core := by cases p <;> rfl

@[simp] theorem State.raiseBoth_core (f : Flag) : (s.raiseBoth f).core = s.core := rfl

@[simp] theorem State.append_core (r : Record) : (s.append r).core = s.core := by simp [State.core]

@[simp] theorem State.note_core (k : Kind) (x y : Option Nat) : (s.note k x y).core = s.core := s.append_core _

@[simp] theorem State.spendBudget_core (id : Nat) : (s.spendBudget id).core = s.core := by
  unfold State.spendBudget
  repeat' split
  all_goals simp [State.core, Store.unspent]

@[simp] theorem State.createEntry_core (id zone : Nat) : (s.createEntry id zone).core = s.core :=
  State.spendBudget_core { s with roster := s.roster ++ [s.newEntry id zone] } id

@[simp] theorem State.removeEntry_core (id : Nat) : (s.removeEntry id).core = s.core := by simp [State.core]

@[simp] theorem State.modEntry_core (id : Nat) (f : RosterEntry → RosterEntry) : (s.modEntry id f).core = s.core := rfl

@[simp] theorem State.commit_core (m : Move) : (s.commit m).core = s.core := by
  unfold State.commit State.applyMove
  repeat' split
  all_goals simp

@[simp] theorem State.commitAll_core (ms : List Move) : (s.commitAll ms).core = s.core :=
  foldl_keeps State.core State.commit State.commit_core ms s

@[simp] theorem State.discardAll_core (p : Fin 16) (ms : List Move) : (s.discardAll p ms).core = s.core :=
  foldl_keeps State.core _ (fun t _ => t.append_core _) ms s

@[simp] theorem State.resolveAll_core (es : List Referral) (o : EntryOutcome) : (s.resolveAll es o).core = s.core :=
  foldl_keeps State.core _ (fun t e => by simp [State.core, State.resolve_field]) es s

@[simp] theorem State.lapse_core (p : Fin 16) : (s.lapse p).core = s.core := by
  unfold State.lapse
  dsimp only
  split <;> simp

@[simp] theorem State.judgeTailgate_core (p : Fin 16) (q : Portal) : (s.judgeTailgate p q).core = s.core := by
  unfold State.judgeTailgate
  split <;> simp

@[simp] theorem State.closeLeaf_core (p : Fin 16) : (s.closeLeaf p).core = s.core := by
  unfold State.closeLeaf
  dsimp only
  split <;> simp

@[simp] theorem State.freePortal_core (p : Fin 16) : (s.freePortal p).core = s.core := by
  unfold State.freePortal State.freeReferrals
  dsimp only
  split <;> simp

@[simp] theorem State.leaveFree_core (p : Fin 16) : (s.leaveFree p).core = s.core := by
  unfold State.leaveFree
  split <;> simp

@[simp] theorem State.enterMode_core (p : Fin 16) (m : Mode) : (s.enterMode p m).core = s.core := by
  have hannounce : (s.announceMode p m).core = s.core := by simp [State.announceMode]
  rw [State.enterMode_eq]
  repeat' split
  all_goals simp [hannounce]

@[simp] theorem State.recomputeMode_core (p : Fin 16) : (s.recomputeMode p).core = s.core := by
  unfold State.recomputeMode
  split <;> simp

@[simp] theorem State.takeUpPortal_core (p : Fin 16) (old : PortalRec) : (s.takeUpPortal p old).core = s.core := by
  unfold State.takeUpPortal State.takeUpBeam State.takeUpSensor State.judgeSchedule
  rw [State.recomputeMode_core, State.modPortal_core]
  repeat' split
  all_goals simp

theorem State.takeUpChanged_core (before : Mirror) : (s.takeUpChanged before).core = s.core := by
  unfold State.takeUpChanged
  dsimp only
  rw [foldl_keeps State.core _ (fun t c => t.modCar_core c _), foldl_keeps State.core _ (fun t p => by split <;> simp)]

theorem State.handOff_core (id : Nat) : (s.handOff id).core = s.core := by
  have hreply : (s.handOff id).field.reply = s.field.reply := by
    rw [State.handOff_field]
    split <;> rfl
  obtain ⟨_, hpower, hpins, hclock, _⟩ := s.handOff_frame id
  exact State.core_eq_iff.mpr ⟨hpower, hpins, hclock, hreply, by rw [State.handOff_store]; rfl⟩

theorem foldl_handOff_core (ids : List Nat) : (ids.foldl State.handOff s).core = s.core :=
  foldl_keeps State.core State.handOff State.handOff_core ids s

/-- Handed-over credentials leave the mirror as it is. -/
theorem foldl_handOff_mirror (ids : List Nat) : (ids.foldl State.handOff s).store.mirror = s.store.mirror :=
  foldl_keeps (·.store.mirror) State.handOff (fun t id => by rw [State.handOff_store]; rfl) ids s

/-- Where no portal record changes, no portal takes anything up. -/
theorem State.takeUpChanged_of_same {before : Mirror} (h : s.store.mirror.portals = before.portals) :
    (s.takeUpChanged before).store = s.store := by
  have hportals : ∀ l : List (Fin 16), l.foldl
      (fun t p => if before.portals[p] = s.store.mirror.portals[p] then t else t.takeUpPortal p before.portals[p]) s = s :=
    fun l => foldl_invariant (P := fun t => t = s) (fun t p ht => by rw [h, if_pos rfl, ht]) l rfl
  unfold State.takeUpChanged
  dsimp only
  rw [hportals, foldl_keeps (·.store) (fun t c => t.modCar c (·.takeUp (t.carRec c))) (fun t c => rfl)]

end

/-! ## What is gone with a credential (R17, R24) -/

/-- Nothing of a credential stands with the owners. -/
structure State.Gone (s : State) (id : Nat) : Prop where
  entry : ∀ e ∈ s.roster, e.id ≠ id
  moves : ∀ p : Fin 16, ∀ m ∈ s.portals[p].moves, m.id ≠ id
  passengers : ∀ c : Fin 4, ∀ q ∈ s.cars[c].passengers, q.id ≠ id
  referrals : ∀ e ∈ s.referrals, e.id = id → e.state ≠ .pending
  marks : id ∉ s.store.marks

/-- A credential that has been handed over is gone. -/
theorem State.handOff_gone (s : State) (id : Nat) : (s.handOff id).Gone id where
  entry := by
    rw [State.handOff_roster]
    exact fun e he => bne_iff_ne.mp (List.mem_filter.mp he).2
  moves := by
    intro p
    rw [State.handOff_portal]
    exact fun m hm => bne_iff_ne.mp (List.mem_filter.mp hm).2
  passengers := by
    intro c
    rw [State.handOff_car, Car.remove_passengers]
    exact fun q hq => bne_iff_ne.mp (List.mem_filter.mp hq).2
  referrals := by
    rw [State.handOff_referrals]
    exact fun e he hid hstate => bne_iff_ne.mp (by simpa using State.resolvePicked_pending he hstate) hid
  marks := by
    rw [State.handOff_store]
    simp [Store.unmark]

/-- What is gone stays gone as others are handed over. -/
theorem State.Gone.handOff {s : State} {id : Nat} (h : s.Gone id) (k : Nat) : (s.handOff k).Gone id where
  entry := by
    rw [State.handOff_roster]
    exact fun e he => h.entry e (List.mem_filter.mp he).1
  moves := by
    intro p
    rw [State.handOff_portal]
    exact fun m hm => h.moves p m (List.mem_filter.mp hm).1
  passengers := by
    intro c
    rw [State.handOff_car, Car.remove_passengers]
    exact fun q hq => h.passengers c q (List.mem_filter.mp hq).1
  referrals := by
    rw [State.handOff_referrals]
    exact fun e he hid hstate => h.referrals e (State.resolveAll_pending he hstate) hid hstate
  marks := by
    rw [State.handOff_store]
    exact fun hmem => h.marks (List.mem_filter.mp hmem).1

theorem foldl_handOff_gone {ids : List Nat} {id : Nat} (hid : id ∈ ids) (s : State) : (ids.foldl State.handOff s).Gone id := by
  induction ids generalizing s with
  | nil => exact nomatch hid
  | cons k ids ih =>
    rcases List.mem_cons.mp hid with rfl | hid
    · exact foldl_invariant (P := (State.Gone · id)) (fun t k h => h.handOff k) ids (s.handOff_gone id)
    · exact ih hid (s.handOff k)

/-- A credential that was in the mirror before and is not in it after is one of those that leave. -/
theorem mem_goneIds {before after : Mirror} {id : Nat} (hbefore : (before.credentials.find? id).isSome = true)
    (hafter : after.credentials.find? id = none) : id ∈ goneIds before after := by
  obtain ⟨e, he⟩ := Option.isSome_iff_exists.mp hbefore
  exact List.mem_map.mpr ⟨(id, e), List.mem_filter.mpr ⟨findEntry_mem he, by simp [hafter]⟩, rfl⟩

/-! ## The rebuilt mirror (R24, R26) -/

theorem findEntry_map {α β : Type} {f : Nat × α → Nat × β} (hf : ∀ e, (f e).1 = e.1) (l : List (Nat × α)) (n : Nat) :
    findEntry (l.map f) n = (findEntry l n).map (fun x => (f (n, x)).2) := by
  induction l with
  | nil => rfl
  | cons e l ih =>
    obtain ⟨k, x⟩ := e
    have hk : (f (k, x)).1 = k := hf (k, x)
    by_cases h : k = n
    · subst h
      simp [findEntry, hk]
    · simp [findEntry, hk, h, ih]

/-- Reconciliation makes a unit VACANT whose tenancy is absent or does not list it. -/
theorem Mirror.reconcile_unit (m : Mirror) (n : Nat) :
    m.reconcile.units.find? n = (m.units.find? n).map (fun u => (reconcileUnit m.tenancies (n, u)).2) :=
  findEntry_map (reconcileUnit_number _) m.units.entries n

theorem Mirror.reconcile_tenancy (m : Mirror) (n : Nat) :
    m.reconcile.tenancies.find? n =
      (m.tenancies.find? n).map (fun x => (reconcileTenancy m.reconcile.units (n, x)).2) :=
  findEntry_map (reconcileTenancy_number _) m.tenancies.entries n

theorem reconcileUnit_eq (tenancies : Table TenancyRec) (n : Nat) (u : UnitRec) :
    (reconcileUnit tenancies (n, u)).2 =
      match u.tenancy with
      | none => u
      | some k =>
        match tenancies.find? k with
        | some x => if n ∈ x.units then u else { u with state := .vacant, tenancy := none }
        | none => { u with state := .vacant, tenancy := none } := by
  unfold reconcileUnit unitStands
  cases u.tenancy with
  | none => rfl
  | some k =>
    cases hk : tenancies.find? k with
    | none => simp [hk]
    | some x => by_cases hn : n ∈ x.units <;> simp [hk, hn]

theorem unitNames_iff {units : Table UnitRec} {n u : Nat} :
    unitNames units n u = true ↔ ∃ v, units.find? u = some v ∧ v.tenancy = some n := by
  cases h : units.find? u <;> simp [unitNames, h]

/-- Reconciliation drops from a tenancy every unit that does not name it, CLOSED where none is left. -/
theorem reconcileTenancy_units (units : Table UnitRec) (n : Nat) (x : TenancyRec) :
    (reconcileTenancy units (n, x)).2 =
      { x with
        units := x.units.filter (unitNames units n)
        state := if x.units.filter (unitNames units n) = [] ∧ x.units ≠ [] then .closed else x.state } := by
  unfold reconcileTenancy
  by_cases hall : x.units.all (unitNames units n) = true
  · have hkept : x.units.filter (unitNames units n) = x.units := List.filter_eq_self.mpr (List.all_eq_true.mp hall)
    simp [hall, hkept]
  · have hsome : x.units ≠ [] := fun hempty => hall (by simp [hempty])
    simp only [hall, List.isEmpty_iff, hsome, ne_eq, not_false_eq_true, and_true]
    rfl

/-! ## The record of a fault (R24) -/

theorem State.append_office (s : State) (r : Record) :
    (s.append r).office.reply = s.office.reply ∧ (s.append r).office.busy = s.office.busy := by
  unfold State.append
  dsimp only
  repeat' split
  all_goals exact ⟨rfl, rfl⟩

/-- A STORE_FAULT record is the last one, and the flag stands; the Office Port keeps its reply. -/
theorem State.noteFault_office (s : State) (id : Option Nat) (n : Nat) :
    (s.noteFault id n).journal.getLast? = some { s.blankRecord .storeFault with id := id, count := some n }
      ∧ (s.noteFault id n).office.flags.getLsbD 9 = true
      ∧ (s.noteFault id n).office.reply = s.office.reply ∧ (s.noteFault id n).office.busy = s.office.busy := by
  have hbit : Flag.storeFault.bit.getLsbD 9 = true := by decide
  refine ⟨by simp [State.noteFault], ?_, (s.append_office _).1, (s.append_office _).2⟩
  simp [State.noteFault, State.raise, State.modPort, hbit]

/-- Nothing but the journal and the Office Port takes part in the record of a fault. -/
theorem State.noteFault_eq (s : State) (id : Option Nat) (n : Nat) :
    s.noteFault id n = { s with journal := (s.noteFault id n).journal, office := (s.noteFault id n).office } := by
  apply State.eq_of_fields <;> simp [State.noteFault]

section
variable {s : State} {j : Job} {w : SlotWrite}

theorem State.slotDisagrees_first (hretry : j.retry = false) :
    s.slotDisagrees j = { s with store := { s.store with job := some { j with retry := true } } } := by
  simp [State.slotDisagrees, hretry]

theorem State.slotDisagrees_request (hretry : j.retry = true) (htask : j.task = .request) :
    s.slotDisagrees j = s.faultRequest j := by
  simp [State.slotDisagrees, hretry, htask]

theorem State.slotDisagrees_writeBack {id : Nat} (hretry : j.retry = true) (htask : j.task = .writeBack id) :
    s.slotDisagrees j = (s.endWriteBack id).noteFault (some id) 0 := by
  simp [State.slotDisagrees, hretry, htask]

/-- The owners after a store fault, before the Office Port is told: they have taken up a mirror and lost those that left. -/
def State.faulted (s : State) (m : Mirror) : State :=
  (goneIds s.store.mirror m).foldl State.handOff ((s.modMirror (fun _ => m)).takeUpChanged s.store.mirror)

theorem State.faultRequest_eq {m : Mirror} (hm : m = s.rebuilt (j.writes.take (j.verified + 1))) :
    s.faultRequest j =
      State.noteFault
        { s.faulted m with
          store := (s.faulted m).store.finish
          office := { (s.faulted m).office with busy := false, reply := some ⟨.storeFault, []⟩ } } none j.verified := by
  rw [hm]
  rfl

theorem State.faulted_core (m : Mirror) : (s.faulted m).core = (s.modMirror (fun _ => m)).core := by
  rw [State.faulted, foldl_handOff_core, State.takeUpChanged_core]

theorem State.faulted_mirror {m : Mirror} (hsame : m.portals = s.store.mirror.portals) :
    (s.faulted m).store.mirror = m := by
  rw [State.faulted, foldl_handOff_mirror, State.takeUpChanged_of_same _ (by exact hsame)]
  rfl

end

theorem State.faulted_gone {s : State} {m : Mirror} {id : Nat}
    (hbefore : (s.store.mirror.credentials.find? id).isSome = true) (hafter : m.credentials.find? id = none) :
    (s.faulted m).Gone id :=
  foldl_handOff_gone (mem_goneIds hbefore hafter) _

/-- What is left of the Store after a fault, but for what a commit may spend: the mirror that was rebuilt. -/
theorem State.faulted_store (s : State) (m : Mirror) :
    (s.faulted m).store.slots = s.store.slots ∧ (s.faulted m).store.waiting = s.store.waiting
      ∧ (s.faulted m).store.mirror = { m with credentials := (s.faulted m).store.mirror.credentials } := by
  have hcore := (State.core_eq_iff.mp (s.faulted_core m)).2.2.2.2
  generalize (s.faulted m).store = t at hcore
  obtain ⟨phase, slots, ⟨units, tenancies, credentials, profiles, holidays, portals, cars, siteLimit⟩, job, waiting, marks,
    duplicates⟩ := t
  simp only [Store.unspent, State.modMirror, Store.mk.injEq, Mirror.mk.injEq] at hcore ⊢
  simp [hcore]

/-- Settles O31: a first failure by the second attempt, a store fault by the rebuilt mirror and what is handed over, a
write-back by its mark alone, and the rebuilt mirror by what each slot loads and by reconciliation. -/
theorem storeFaultStops : Obligations.StoreFaultStops := by
  refine ⟨fun s j w hrun hjob hretry hslot => ?first,
    fun s j w m hrun hjob hretry htask hslot hm => ?fault,
    fun s j w id hrun hjob hretry htask hslot => ?writeBack,
    fun slots m => ⟨fun n k r => ?unit, fun n k r => ?tenancy, fun p r => ?portal, fun n => ?units, fun n x hx => ?tenancies⟩⟩
  case first =>
    rw [exec_slotVerified_running hrun, State.slotVerified_failing hjob hslot, State.slotDisagrees_first hretry]
  case fault =>
    have hfault := State.faultRequest_eq (s := { s with store := s.store.program false w }) (j := j) hm
    have hcore := State.core_eq_iff.mp (State.faulted_core (s := { s with store := s.store.program false w }) m)
    have hstore := State.faulted_store { s with store := s.store.program false w } m
    have hsame := State.faulted_mirror (s := { s with store := s.store.program false w }) (m := m)
    have hgone := fun id => State.faulted_gone (s := { s with store := s.store.program false w }) (m := m) (id := id)
    generalize State.faulted { s with store := s.store.program false w } m = u at hfault hcore hstore hsame hgone
    obtain ⟨hpower, hpins, hclock, hreply, -⟩ := hcore
    obtain ⟨hslots, hwaiting, hmirror⟩ := hstore
    obtain ⟨-, hfinslots, hfinmirror, -, hfinmarks⟩ := Store.finish_frame u.store
    refine ⟨_, exec_slotVerified_running hrun false, ?_⟩
    rw [State.slotVerified_failing hjob hslot, State.slotDisagrees_request hretry htask, hfault]
    obtain ⟨hlast, hflag, hheld, hfree⟩ := State.noteFault_office
      { u with
        store := u.store.finish
        office := { u.office with busy := false, reply := some ⟨.storeFault, []⟩ } } none j.verified
    rw [State.noteFault_eq]
    refine ⟨hfinslots.trans hslots, fun hwait => ?_, hheld, hfree, hflag, ⟨_, hlast, rfl, rfl, rfl⟩, hclock, hpower, hpins,
      hreply, ?_, fun hportals => hfinmirror.trans (hsame hportals), fun id hbefore hafter => ?_⟩
    · have hfinish := Store.finish_of_not_waiting (hwaiting.trans hwait)
      exact ⟨congrArg Store.phase hfinish, congrArg Store.job hfinish⟩
    · simp only [State.drive_store, hfinmirror]
      exact hmirror
    · have hgone := hgone id hbefore hafter
      exact ⟨State.entryOf_eq_none.mpr hgone.entry, hgone.moves, hgone.passengers, hgone.referrals,
        fun hmem => hgone.marks (hfinmarks ▸ hmem)⟩
  case writeBack =>
    obtain ⟨hlast, hflag, hheld, hfree⟩ := State.noteFault_office
      (State.endWriteBack { s with store := s.store.program false w } id) (some id) 0
    obtain ⟨-, -, hmirror, -, hmarks⟩ := Store.finish_frame ((s.store.program false w).unmark id)
    refine ⟨_, exec_slotVerified_running hrun false, ?_⟩
    rw [State.slotVerified_failing hjob hslot, State.slotDisagrees_writeBack hretry htask, State.noteFault_eq]
    exact ⟨hmirror, hmarks, hheld, hfree, hflag, hlast, rfl⟩
  case unit =>
    refine (Table.find?_set _ n k _).trans ?_
    rcases slots.units.find? n with _ | ⟨x⟩ | _ <;> rfl
  case tenancy =>
    refine (Table.find?_set _ n k _).trans ?_
    rcases slots.tenancies.find? n with _ | ⟨x⟩ | _ <;> rfl
  case portal =>
    simp only [reloadSlot]
    rcases slots.portals.find? p.val with _ | ⟨x⟩ | _ <;> rfl
  case units =>
    rw [Mirror.reconcile_unit]
    exact congrArg (Option.map · (m.units.find? n)) (funext fun u => reconcileUnit_eq m.tenancies n u)
  case tenancies =>
    have hunits := reconcileTenancy_units m.reconcile.units n x
    exact ⟨_, (Mirror.reconcile_tenancy m n).trans ((congrArg _ hx).trans (congrArg some hunits)),
      fun u => by rw [List.mem_filter, unitNames_iff], rfl, rfl⟩

end Sys2Proof.Machine

/-! PROOFS. Closings: how the closing leaf ends a cycle, and with which records (R93, R94). -/

namespace Sys2Proof.Machine

/-! ## The tailgate judgement (R94) -/

section
variable {s : State} {p : Fin 16} {q : Portal}

/-- A cycle whose passages exceed its grants has its TAILGATE record and flags. -/
theorem State.judgeTailgate_of_excess (hbeam : (s.portalRec p).beam = true) (hjudged : q.tailgate = true)
    (hexcess : q.grants < q.passages) :
    s.judgeTailgate p q = (s.note .tailgate (some p.val) (some (q.passages - q.grants))).raiseBoth .tailgate := by
  simp [State.judgeTailgate, hbeam, hjudged, hexcess]

/-- Any other cycle has nothing. -/
theorem State.judgeTailgate_of_none
    (h : (s.portalRec p).beam = false ∨ q.tailgate = false ∨ q.passages ≤ q.grants) : s.judgeTailgate p q = s := by
  refine if_neg ?_
  simp only [Bool.and_eq_true, decide_eq_true_eq]
  rintro ⟨⟨hbeam, hjudged⟩, hexcess⟩
  rcases h with h | h | h
  · simp [h] at hbeam
  · simp [h] at hjudged
  · omega

/-- The TAILGATE record of a cycle, where one is due. -/
def State.tailgateRecords (s : State) (p : Fin 16) (q : Portal) (beam : Bool) : List Record :=
  if beam = true ∧ q.tailgate = true ∧ q.grants < q.passages then
    [{ s.blankRecord .tailgate with subject := some p.val, count := some (q.passages - q.grants) }]
  else []

theorem State.judgeTailgate_journal (hroom : s.journal.length < 512) :
    (s.judgeTailgate p q).journal = s.journal ++ s.tailgateRecords p q (s.portalRec p).beam := by
  by_cases h : (s.portalRec p).beam = true ∧ q.tailgate = true ∧ q.grants < q.passages
  · rw [State.judgeTailgate_of_excess h.1 h.2.1 h.2.2, State.raiseBoth_journal, State.note,
      State.append_journal_of_room _ hroom, State.tailgateRecords, if_pos h]
  · have hnone : (s.portalRec p).beam = false ∨ q.tailgate = false ∨ q.passages ≤ q.grants := by
      by_contra hc
      simp only [not_or, Bool.not_eq_false, not_le] at hc
      exact h hc
    rw [State.judgeTailgate_of_none hnone, State.tailgateRecords, if_neg h, List.append_nil]

/-! ## The end of a cycle by the closing leaf (R93) -/

theorem State.closeLeaf_opened (h : s.portals[p].leaf = .opened) :
    s.closeLeaf p = (s.modPortal p (Portal.endCycle .secure)).judgeTailgate p s.portals[p] := by
  unfold State.closeLeaf
  dsimp only
  rw [h]

theorem State.closeLeaf_held (h : s.portals[p].leaf = .held) :
    s.closeLeaf p =
      ((s.modPortal p (Portal.endCycle .secure)).note .heldCleared (some p.val)
        (some (s.heldSeconds s.portals[p]))).judgeTailgate p s.portals[p] := by
  unfold State.closeLeaf
  dsimp only
  rw [h]

theorem State.closeLeaf_forced (h : s.portals[p].leaf = .forced) :
    s.closeLeaf p =
      (s.modPortal p (Portal.endCycle .secure)).note .forcedCleared (some p.val) (some s.portals[p].passages) := by
  unfold State.closeLeaf
  dsimp only
  rw [h]

/-- At a portal with no open leaf nothing ends. -/
theorem State.closeLeaf_other_leaf (h : s.portals[p].leaf = .secure ∨ s.portals[p].leaf = .released ∨ s.portals[p].leaf = .free) :
    s.closeLeaf p = s := by
  unfold State.closeLeaf
  dsimp only
  rcases h with h | h | h <;> rw [h]

/-- The cycle of an OPEN, HELD or FORCED portal is over, and the portal is SECURE. -/
theorem State.closeLeaf_self (h : s.portals[p].leaf = .opened ∨ s.portals[p].leaf = .held ∨ s.portals[p].leaf = .forced) :
    (s.closeLeaf p).portals[p] = s.portals[p].endCycle .secure := by
  rcases h with h | h | h
  · rw [State.closeLeaf_opened h]
    simp
  · rw [State.closeLeaf_held h]
    simp [State.note]
  · rw [State.closeLeaf_forced h]
    simp [State.note]

/-- What an ended cycle is recorded with: the model's seconds are those of the statements. -/
theorem State.closingRecords_eq (s : State) (p : Fin 16) (q : Portal) (beam : Bool) :
    s.closingRecords p q beam =
      match q.leaf with
      | .opened => s.tailgateRecords p q beam
      | .held =>
        { s.blankRecord .heldCleared with subject := some p.val, count := some (s.heldSeconds q) }
          :: s.tailgateRecords p q beam
      | .forced => [{ s.blankRecord .forcedCleared with subject := some p.val, count := some q.passages }]
      | .secure | .released | .free => [] := by
  have hseconds : s.heldSeconds q =
      match q.held with | some h => min ((s.clock.tick - h.start) / 100) 65535 | none => 0 := by
    unfold State.heldSeconds
    cases q.held <;> rfl
  rw [hseconds]
  rfl

/-- The records with which the closing leaf ends a cycle, in their order. -/
theorem State.closeLeaf_journal (hroom : s.journal.length + 2 ≤ 512) :
    (s.closeLeaf p).journal = s.journal ++ s.closingRecords p s.portals[p] (s.portalRec p).beam := by
  rw [State.closingRecords_eq]
  cases h : s.portals[p].leaf with
  | opened =>
    rw [State.closeLeaf_opened h, State.judgeTailgate_journal (by simp only [State.modPortal_journal]; omega)]
    rfl
  | held =>
    have hnote : ((s.modPortal p (Portal.endCycle .secure)).note .heldCleared (some p.val)
          (some (s.heldSeconds s.portals[p]))).journal =
        s.journal
          ++ [{ s.blankRecord .heldCleared with subject := some p.val, count := some (s.heldSeconds s.portals[p]) }] := by
      rw [State.note, State.append_journal_of_room _ (by simp only [State.modPortal_journal]; omega)]
      rfl
    rw [State.closeLeaf_held h, State.judgeTailgate_journal (by rw [hnote]; simp; omega), hnote, List.append_assoc]
    simp only [List.singleton_append, State.note, State.portalRec, State.append_store, State.modPortal_store,
      State.tailgateRecords, State.blankRecord, State.append_clock, State.modPortal_clock]
    rfl
  | forced =>
    rw [State.closeLeaf_forced h, State.note, State.append_journal_of_room _ (by simp only [State.modPortal_journal]; omega)]
    rfl
  | secure => rw [State.closeLeaf_other_leaf (.inl h), List.append_nil]
  | released => rw [State.closeLeaf_other_leaf (.inr (.inl h)), List.append_nil]
  | free => rw [State.closeLeaf_other_leaf (.inr (.inr h)), List.append_nil]

/-- The closing leaf leaves what is no part of the cycle. -/
theorem State.closeLeaf_kept (s : State) (p : Fin 16) :
    (s.closeLeaf p).portals[p] = s.portals[p] ∨ (s.closeLeaf p).portals[p] = s.portals[p].endCycle .secure := by
  cases h : s.portals[p].leaf with
  | opened => exact .inr (State.closeLeaf_self (.inl h))
  | held => exact .inr (State.closeLeaf_self (.inr (.inl h)))
  | forced => exact .inr (State.closeLeaf_self (.inr (.inr h)))
  | secure => exact .inl (by rw [State.closeLeaf_other_leaf (.inl h)])
  | released => exact .inl (by rw [State.closeLeaf_other_leaf (.inr (.inl h))])
  | free => exact .inl (by rw [State.closeLeaf_other_leaf (.inr (.inr h))])

/-- A cycle that is judged and has an excess ends with its TAILGATE record and flags. -/
theorem State.closeLeaf_excess (hleaf : s.portals[p].leaf = .opened ∨ s.portals[p].leaf = .held)
    (hbeam : (s.portalRec p).beam = true) (hjudged : s.portals[p].tailgate = true)
    (hexcess : s.portals[p].grants < s.portals[p].passages) :
    (s.closeLeaf p).journal.getLast? =
        some { s.blankRecord .tailgate with
          subject := some p.val, count := some (s.portals[p].passages - s.portals[p].grants) }
      ∧ (s.closeLeaf p).office.flags.getLsbD 6 = true ∧ (s.closeLeaf p).field.flags.getLsbD 6 = true := by
  obtain ⟨u, hu, hclock⟩ : ∃ u : State, s.closeLeaf p =
      (u.note .tailgate (some p.val) (some (s.portals[p].passages - s.portals[p].grants))).raiseBoth .tailgate
        ∧ u.clock = s.clock := by
    rcases hleaf with h | h
    · exact ⟨s.modPortal p (Portal.endCycle .secure),
        by rw [State.closeLeaf_opened h, State.judgeTailgate_of_excess (by exact hbeam) hjudged hexcess], rfl⟩
    · exact ⟨_, by rw [State.closeLeaf_held h, State.judgeTailgate_of_excess
        (by simpa [State.note, State.portalRec] using hbeam) hjudged hexcess], by simp [State.note]⟩
  rw [hu, State.raiseBoth_journal, State.note, State.append_getLast?, State.blankRecord_congr hclock]
  exact ⟨rfl, State.raiseBoth_flags _ .tailgate⟩

/-- A cycle that is not judged or has no excess has no TAILGATE record and raises nothing on the Field Port. -/
theorem State.closeLeaf_even
    (h : (s.portalRec p).beam = false ∨ s.portals[p].tailgate = false ∨ s.portals[p].passages ≤ s.portals[p].grants) :
    (s.closeLeaf p).field = s.field
      ∧ (s.portals[p].leaf = .opened → (s.closeLeaf p).journal = s.journal ∧ (s.closeLeaf p).office = s.office)
      ∧ (s.portals[p].leaf = .held → (s.closeLeaf p).journal.getLast? =
          some { s.blankRecord .heldCleared with subject := some p.val, count := some (s.heldSeconds s.portals[p]) }) := by
  have hnone (u : State) (hu : u.store = s.store) : u.judgeTailgate p s.portals[p] = u :=
    State.judgeTailgate_of_none (by simpa only [State.portalRec, hu] using h)
  refine ⟨?_, fun hl => ?_, fun hl => ?_⟩
  · cases hl : s.portals[p].leaf with
    | opened => rw [State.closeLeaf_opened hl, hnone _ (by simp)]; rfl
    | held => rw [State.closeLeaf_held hl, hnone _ (by simp [State.note]), State.note, State.append_field]; rfl
    | forced => rw [State.closeLeaf_forced hl, State.note, State.append_field]; rfl
    | secure => rw [State.closeLeaf_other_leaf (.inl hl)]
    | released => rw [State.closeLeaf_other_leaf (.inr (.inl hl))]
    | free => rw [State.closeLeaf_other_leaf (.inr (.inr hl))]
  · rw [State.closeLeaf_opened hl, hnone _ (by simp)]
    exact ⟨rfl, rfl⟩
  · rw [State.closeLeaf_held hl, hnone _ (by simp [State.note]), State.note, State.append_getLast?]
    rfl

end

/-! ## LEAF_CLOSED_RECOGNIZED (R93, R94) -/

/-- Settles O48: the position is noted, and the cycle ends by its leaf state with the records due. -/
theorem leafCloses : Obligations.LeafCloses := by
  intro s p hdue
  have hexec : exec (.leafClosedRecognized p) s = .next (s.leafClosed p).drive :=
    done_of_eq (timed_due (due := (·.leafDue p false)) hdue)
  -- the state with the position noted, whose cycle is the same
  obtain ⟨t, ht⟩ : ∃ t, t = s.modPortal p (fun q => { q with position := .closed, leafDebounce := none }) := ⟨_, rfl⟩
  have hcloses : s.leafClosed p = t.closeLeaf p := by rw [ht, State.leafClosed]
  have hself : t.portals[p] = { s.portals[p] with position := .closed, leafDebounce := none } := by
    rw [ht, State.modPortal_self]
  have hrest : t.journal = s.journal ∧ t.office = s.office ∧ t.field = s.field ∧ t.portalRec p = s.portalRec p
      ∧ t.clock = s.clock := by
    rw [ht]
    exact ⟨rfl, rfl, rfl, rfl, rfl⟩
  obtain ⟨hjournal, hoffice, hfield, hrec, hclock⟩ := hrest
  have hleaf : t.portals[p].leaf = s.portals[p].leaf := by rw [hself]
  have hkept := t.closeLeaf_kept p
  have hopened := State.closeLeaf_self (s := t) (p := p)
  have hshut := State.closeLeaf_other_leaf (s := t) (p := p)
  have hexcess := State.closeLeaf_excess (s := t) (p := p)
  have heven := State.closeLeaf_even (s := t) (p := p)
  rw [hleaf] at hopened hshut hexcess heven
  rw [hself] at hkept hopened hexcess heven
  rw [hcloses] at hexec
  refine ⟨_, hexec, ?_⟩
  simp only [State.drive_portals, State.drive_journal, State.drive_office, State.drive_field]
  refine ⟨?position, ?debounce, ?others, ?frame, fun h => ⟨hopened h, fun hroom => ?ended⟩, ?excess, ?even, ?forced, ?shut⟩
  case position =>
    rcases hkept with h | h
    · rw [h]
    · rw [h]
      rfl
  case debounce =>
    rcases hkept with h | h
    · rw [h]
    · rw [h]
      rfl
  case others =>
    intro q hq
    rw [State.closeLeaf_other _ _ _ hq, ht, State.modPortal_other s _ _ _ (Ne.symm hq)]
  case frame => apply State.eq_of_fields <;> simp [ht]
  case ended =>
    rw [State.closeLeaf_journal (by rwa [hjournal]), hjournal, hself, ht]
    rfl
  case excess =>
    intro h hbeam hjudged hmore
    rw [← State.blankRecord_congr hclock]
    exact hexcess h (by rw [hrec]; exact hbeam) hjudged hmore
  case even =>
    intro h
    obtain ⟨hefield, heopened, heheld⟩ := heven (by rw [hrec]; exact h)
    refine ⟨hefield.trans hfield, fun hl => ?_, fun hl => ?_⟩
    · exact ⟨(heopened hl).1.trans hjournal, (heopened hl).2.trans hoffice⟩
    · rw [heheld hl, State.blankRecord_congr hclock, State.heldSeconds, hclock]
      dsimp only
      cases s.portals[p].held <;> rfl
  case forced =>
    intro h
    rw [State.closeLeaf_forced (by rwa [hleaf]), State.note, State.append_getLast?, hself, ht]
    rfl
  case shut =>
    intro h
    rw [hshut h]
    exact ⟨hself, hjournal⟩

end Sys2Proof.Machine

/-! PROOFS. Openings: the opening leaf, the exit button and a portal's two timers (R85, R88 to R90, R92, R95, R98). -/

namespace Sys2Proof.Machine

/-! ## Two changes of one portal, and the outputs after them -/

theorem State.modPortal_modPortal (s : State) (p : Fin 16) (f g : Portal → Portal) :
    (s.modPortal p f).modPortal p g = s.modPortal p (fun q => g (f q)) := by
  simp [State.modPortal]

theorem Quiet.portalRec {s t : State} (h : Quiet s t) (p : Fin 16) : t.portalRec p = s.portalRec p := by
  rw [State.portalRec, State.portalRec, h.records]

/-- The strike of a portal that neither unlocks nor is free stands at secure level. -/
theorem State.drive_strike_secure {s : State} {p : Fin 16} (hrun : s.running = true)
    (hrel : s.portals[p].leaf ≠ .released) (hfree : s.portals[p].leaf ≠ .free) :
    s.drive.outs.strike[p] = secureLevel (s.portalRec p) := by
  rw [State.drive_strike hrun, if_neg (not_or.mpr ⟨hrel, hfree⟩)]

/-- The strike of a RELEASED portal stands at release level. -/
theorem State.drive_strike_released {s : State} {p : Fin 16} (hrun : s.running = true)
    (hrel : s.portals[p].leaf = .released) : s.drive.outs.strike[p] = releaseLevel (s.portalRec p) := by
  rw [State.drive_strike hrun, if_pos (.inl hrel)]

/-- A FORCED or HELD portal asserts ALARM. -/
theorem State.drive_alarm_of_leaf {s : State} {p : Fin 16} (hrun : s.running = true)
    (h : s.portals[p].leaf = .forced ∨ s.portals[p].leaf = .held) : s.drive.outs.alarm = true := by
  rw [(State.drive_outputsFollow s).alarm, Bool.and_eq_true]
  exact ⟨hrun, State.alarming_iff.mpr (.inr ⟨p, h⟩)⟩

/-! ## LEAF_OPEN_RECOGNIZED (R90, R95) -/

section
variable {s : State} {p : Fin 16}

/-- A portal with its leaf noted as open. -/
def Portal.noteOpen (q : Portal) : Portal := { q with position := .opened, leafDebounce := none }

/-- The cycle of a released portal goes on with the leaf open: its moves leave the list and its held timer runs. -/
def Portal.opens (h : HeldTimer) (q : Portal) : Portal :=
  { q.noteOpen with leaf := .opened, moves := [], unlock := none, held := some h }

theorem State.leafOpened_released (h : s.portals[p].leaf = .released) :
    s.leafOpened p = (s.commitAll s.portals[p].moves).modPortal p (Portal.opens (s.heldStart p)) := by
  unfold State.leafOpened
  dsimp only
  rw [h]
  dsimp only
  rw [State.commitAll_modPortal, State.commitAll_modPortal, State.modPortal_modPortal]
  rfl

theorem State.leafOpened_initial (h : s.portals[p].leaf = .secure) (hinit : s.portals[p].position = .unknown) :
    s.leafOpened p = (s.modPortal p Portal.noteOpen).modPortal p (Portal.foundOpen (s.heldStart p)) := by
  unfold State.leafOpened
  dsimp only
  rw [h]
  exact if_pos hinit

theorem State.leafOpened_forced (h : s.portals[p].leaf = .secure) (hinit : s.portals[p].position ≠ .unknown) :
    s.leafOpened p =
      (((s.modPortal p Portal.noteOpen).modPortal p (Portal.endCycle .forced)).note .forced (some p.val) none).raiseBoth
        .forced := by
  unfold State.leafOpened
  dsimp only
  rw [h]
  exact if_neg hinit

/-- A portal that is neither RELEASED nor SECURE notes the position alone. -/
theorem State.leafOpened_noted (hrel : s.portals[p].leaf ≠ .released) (hsec : s.portals[p].leaf ≠ .secure) :
    s.leafOpened p = s.modPortal p Portal.noteOpen := by
  unfold State.leafOpened
  dsimp only
  cases h : s.portals[p].leaf with
  | released => exact absurd h hrel
  | secure => exact absurd h hsec
  | opened | held | forced | free => rfl

/-- The portal whose leaf is recognized open. -/
theorem State.leafOpened_self :
    (s.leafOpened p).portals[p] =
      if s.portals[p].leaf = .released then s.portals[p].opens (s.heldStart p)
      else if s.portals[p].leaf = .secure then
        if s.portals[p].position = .unknown then s.portals[p].noteOpen.foundOpen (s.heldStart p)
        else s.portals[p].noteOpen.endCycle .forced
      else s.portals[p].noteOpen := by
  by_cases hrel : s.portals[p].leaf = .released
  · rw [if_pos hrel, State.leafOpened_released hrel, State.modPortal_self, (s.commitAll_frame _).2.2.2.2.1]
  rw [if_neg hrel]
  by_cases hsec : s.portals[p].leaf = .secure
  · rw [if_pos hsec]
    by_cases hinit : s.portals[p].position = .unknown
    · rw [if_pos hinit, State.leafOpened_initial hsec hinit, State.modPortal_self, State.modPortal_self]
    · rw [if_neg hinit, State.leafOpened_forced hsec hinit, State.raiseBoth_portals, State.note, State.append_portals,
        State.modPortal_self, State.modPortal_self]
  · rw [if_neg hsec, State.leafOpened_noted hrel hsec, State.modPortal_self]

/-- A leaf that is not released commits nothing. -/
theorem State.leafOpened_held (hrel : s.portals[p].leaf ≠ .released) :
    (s.leafOpened p).roster = s.roster ∧ (s.leafOpened p).cars = s.cars ∧ (s.leafOpened p).store = s.store := by
  by_cases hsec : s.portals[p].leaf = .secure
  · by_cases hinit : s.portals[p].position = .unknown
    · rw [State.leafOpened_initial hsec hinit]
      exact ⟨rfl, rfl, rfl⟩
    · rw [State.leafOpened_forced hsec hinit]
      simp [State.note]
  · rw [State.leafOpened_noted hrel hsec]
    exact ⟨rfl, rfl, rfl⟩

end

/-- Settles O47: each leaf state takes the opening in its own way, and the outputs follow. -/
theorem leafOpens : Obligations.LeafOpens := by
  intro s p hdue
  have hrun : s.running = true := by
    simp only [State.leafDue, Bool.and_eq_true] at hdue
    exact hdue.1.1.1
  have hexec : exec (.leafOpenRecognized p) s = .next (s.leafOpened p).drive :=
    done_of_eq (timed_due (due := (·.leafDue p true)) hdue)
  have hstill : (s.leafOpened p).running = true := (Quiet.leafOpened s p).toKeeps.running hrun
  refine ⟨_, hexec, ?_⟩
  simp only [State.drive_portals, State.drive_journal, State.drive_office, State.drive_field, State.drive_roster,
    State.drive_cars, State.drive_store]
  refine ⟨?position, ?debounce, fun q hq => s.leafOpened_other p q hq, ?frame, State.leafOpened_held, ?goes, ?initial, ?force,
    ?noted⟩
  case position =>
    rw [State.leafOpened_self]
    repeat' split
    all_goals rfl
  case debounce =>
    rw [State.leafOpened_self]
    repeat' split
    all_goals rfl
  case frame => apply State.eq_of_fields <;> simp
  case goes =>
    intro h
    have hself : (s.leafOpened p).portals[p] = s.portals[p].opens (s.heldStart p) := by
      rw [State.leafOpened_self, if_pos h]
    have hrec := (Quiet.leafOpened s p).portalRec p
    have hstrike : (s.leafOpened p).drive.outs.strike[p] = secureLevel (s.portalRec p) := by
      rw [← hrec]
      refine State.drive_strike_secure hstill ?_ ?_
      · rw [hself]
        exact LeafState.noConfusion
      · rw [hself]
        exact LeafState.noConfusion
    refine ⟨?_, ?_, ?_, ?_, ?_, ?_, ?_, hstrike, ?_⟩
    case refine_7 =>
      rw [State.leafOpened_released h]
      rfl
    case refine_8 =>
      rw [State.leafOpened_released h, State.modPortal_journal, (s.commitAll_frame _).2.2.2.2.2.2.2.2.1]
    all_goals
      rw [hself]
      rfl
  case initial =>
    intro h hinit
    rw [State.leafOpened_self, if_neg (by rw [h]; decide), if_pos h, if_pos hinit, State.leafOpened_initial h hinit]
    exact ⟨rfl, rfl, rfl, rfl, rfl⟩
  case force =>
    intro h hinit
    have hself : (s.leafOpened p).portals[p] = s.portals[p].noteOpen.endCycle .forced := by
      rw [State.leafOpened_self, if_neg (by rw [h]; decide), if_pos h, if_neg hinit]
    have halarm : (s.leafOpened p).drive.outs.alarm = true :=
      State.drive_alarm_of_leaf (p := p) hstill (.inl (by rw [hself]; rfl))
    refine ⟨by rw [hself]; rfl, by rw [hself]; rfl, halarm, ?_, ?_⟩
    · rw [State.leafOpened_forced h hinit, State.raiseBoth_journal, State.note, State.append_getLast?]
      rfl
    · rw [State.leafOpened_forced h hinit]
      exact State.raiseBoth_flags _ .forced
  case noted =>
    intro h
    rw [State.leafOpened_self, if_neg (by rw [h]; decide), if_neg (by rw [h]; decide), State.leafOpened_noted (by rw [h]; decide) (by rw [h]; decide)]
    exact ⟨rfl, rfl⟩

/-! ## The exit button (R85, R98, R115) -/

/-- The judgement of a release looks at the counting members, the records, the fire state and the lines alone. -/
theorem State.busyFor_congr {s t : State} (hcounts : t.counts = s.counts) (hstore : t.store = s.store) (hfire : t.fire = s.fire)
    (hpins : t.pins = s.pins) (p : Fin 16) : t.busyFor p = s.busyFor p := by
  have hrec : t.portalRec = s.portalRec := by
    funext q
    rw [State.portalRec, State.portalRec, hstore]
  have hegress : t.egressUnderFire = s.egressUnderFire := by
    funext q
    rw [State.egressUnderFire, State.egressUnderFire, hrec, hfire]
  have hmembers : t.members = s.members := by
    funext g
    rw [State.members, State.members, hrec]
  have hpulling : t.pulling = s.pulling := by
    funext g
    rw [State.pulling, State.pulling, hmembers, hcounts]
  have hline : t.lineHigh = s.lineHigh := by
    funext g
    rw [State.lineHigh, State.lineHigh, hpulling, hpins]
  rw [State.busyFor, State.busyFor, hrec, hegress, hmembers, hcounts, hpulling, hline]

/-- A change that leaves a portal's leaf state alone leaves the counting members alone. -/
theorem State.counts_modPortal {s : State} {p : Fin 16} {f : Portal → Portal}
    (h : (f s.portals[p]).leaf = s.portals[p].leaf) : (s.modPortal p f).counts = s.counts := by
  funext q
  have hleaf : (s.modPortal p f).portals[q].leaf = s.portals[q].leaf := by
    by_cases hq : q = p
    · rw [hq, State.modPortal_self, h]
    · rw [State.modPortal_other s p q f (Ne.symm hq)]
  rw [State.counts, State.counts, hleaf]
  rfl

/-- A portal whose exit button is noted as pressed. -/
def Portal.notePressed (q : Portal) : Portal := { q with exit := .pressed, exitDebounce := none }

section
variable {s : State} {p : Fin 16}

theorem State.exitPressed_of_released (h : s.portals[p].exit = .released) :
    s.exitPressed p = (s.modPortal p Portal.notePressed).pressExit p := if_pos h

theorem State.exitPressed_of_not_released (h : s.portals[p].exit ≠ .released) :
    s.exitPressed p = s.modPortal p Portal.notePressed := if_neg h

theorem State.busyFor_notePressed : (s.modPortal p Portal.notePressed).busyFor p = s.busyFor p :=
  State.busyFor_congr (State.counts_modPortal rfl) rfl rfl rfl p

/-- A press at a SECURE portal whose group is not busy releases it with one grant and no move. -/
theorem State.pressExit_secure (hbutton : (s.portalRec p).exitButton = true) (hleaf : s.portals[p].leaf = .secure)
    (hidle : s.busyFor p = none) :
    s.pressExit p =
      ((s.modPortal p (Portal.release [])).presetUnlock p).note .exitButton (some p.val) (some 1) := by
  unfold State.pressExit
  dsimp only
  rw [hbutton, hleaf, hidle]
  simp [State.presetUnlock, Portal.release]

/-- A press that a busy group blocks is recorded and does nothing else. -/
theorem State.pressExit_blocked {condition : Nat} (hbutton : (s.portalRec p).exitButton = true)
    (hfree : s.portals[p].leaf ≠ .free) (hforced : s.portals[p].leaf ≠ .forced) (hbusy : s.busyFor p = some condition) :
    s.pressExit p = s.note .exitBlocked (some p.val) (some condition) := by
  unfold State.pressExit
  dsimp only
  rw [hbutton, hbusy]
  simp only [Fin.getElem_fin] at hfree hforced
  simp [hfree, hforced]

theorem State.running_of_exitDue {asserted : Bool} (hdue : s.exitDue p asserted = true) : s.running = true := by
  simp only [State.exitDue, Bool.and_eq_true] at hdue
  exact hdue.1.1

theorem exec_exitPress (hdue : s.exitDue p true = true) : exec (.exitPress p) s = .next (s.exitPressed p).drive :=
  done_of_eq (timed_due (due := (·.exitDue p true)) hdue)

end

/-- Settles O49: the press is put to the controller with the button noted, whose group is as busy as before. -/
theorem exitButtonActs : Obligations.ExitButtonActs := by
  intro s p
  refine ⟨?acts, ?blocked, ?initial, ?released⟩
  case acts =>
    intro hdue hexit hbutton hleaf hidle
    have hself : (s.modPortal p Portal.notePressed).portals[p] = s.portals[p].notePressed := State.modPortal_self ..
    have hpress : s.exitPressed p =
        (((s.modPortal p Portal.notePressed).modPortal p (Portal.release [])).presetUnlock p).note .exitButton (some p.val)
          (some 1) := by
      rw [State.exitPressed_of_released hexit]
      exact State.pressExit_secure hbutton (by rw [hself]; exact hleaf) (State.busyFor_notePressed.trans hidle)
    have hnew : (s.exitPressed p).portals[p] =
        { s.portals[p].notePressed with
          leaf := .released, grants := 1, passages := 0, tailgate := true, moves := []
          unlock := some (s.clock.tick + s.unlockPeriod p) } := by
      rw [hpress, State.note, State.append_portals, State.presetUnlock, State.modPortal_self, State.modPortal_self, hself]
      rfl
    have hstill : (s.exitPressed p).running = true :=
      (Quiet.exitPressed s p).toKeeps.running (State.running_of_exitDue hdue)
    refine ⟨_, exec_exitPress hdue, hnew, ?_, ?_, ?_, ?_⟩
    · rw [State.drive_journal, hpress, State.note, State.append_getLast?]
      rfl
    · intro q hq
      rw [State.drive_portals, hpress, State.note, State.append_portals, State.presetUnlock]
      rw [State.modPortal_other _ p q _ (Ne.symm hq), State.modPortal_other _ p q _ (Ne.symm hq),
        State.modPortal_other _ p q _ (Ne.symm hq)]
    · rw [← (Quiet.exitPressed s p).portalRec p]
      exact State.drive_strike_released hstill (by rw [hnew])
    · apply State.eq_of_fields <;> simp
  case blocked =>
    intro condition hdue hexit hbutton hfree hforced hbusy
    have hself : (s.modPortal p Portal.notePressed).portals[p] = s.portals[p].notePressed := State.modPortal_self ..
    have hpress : s.exitPressed p =
        (s.modPortal p Portal.notePressed).note .exitBlocked (some p.val) (some condition) := by
      rw [State.exitPressed_of_released hexit]
      exact State.pressExit_blocked hbutton (by rw [hself]; exact hfree) (by rw [hself]; exact hforced)
        (State.busyFor_notePressed.trans hbusy)
    refine ⟨_, exec_exitPress hdue, ?_, ?_⟩
    · rw [State.drive_portals, hpress, State.note, State.append_portals, hself]
      rfl
    · rw [State.drive_journal, hpress, State.note, State.append_getLast?]
      rfl
  case initial =>
    intro hdue hexit
    rw [exec_exitPress hdue, State.exitPressed_of_not_released (by rw [hexit]; decide)]
    rfl
  case released =>
    intro hdue
    exact done_of_eq (timed_due (due := (·.exitDue p false)) hdue)

/-! ## The unlock timer and the held timer (R89, R92) -/

section
variable {s : State} {p : Fin 16}

/-- Where a leaf sensor is fitted the moves of a release that lapses are discarded. -/
theorem State.lapse_of_sensor (hsensor : (s.portalRec p).leafSensor = true) :
    s.lapse p = (s.modPortal p (Portal.endCycle .secure)).discardAll p s.portals[p].moves := by
  unfold State.lapse
  dsimp only
  rw [if_pos hsensor]

/-- The held timer of an OPEN portal expires. -/
theorem State.expireHeld_opened {start limit : Nat} (hleaf : s.portals[p].leaf = .opened)
    (hheld : s.portals[p].held = some { start := start, expiry := some s.clock.tick })
    (hlimit : s.clock.tick = start + limit * 100) :
    s.expireHeld p =
      ((s.modPortal p
          (fun q => { q with leaf := .held, held := q.held.map (fun h => { h with expiry := none }) })).note .held
        (some p.val) (some limit)).raiseBoth .held := by
  have hseconds : (s.clock.tick - start) / Config.ticksPerSecond = limit := by
    show (s.clock.tick - start) / 100 = limit
    omega
  unfold State.expireHeld
  rw [if_pos hleaf, hheld]
  dsimp only [Option.bind_some, Option.map_some, Option.getD_some]
  rw [hseconds]

end

/-- Settles O51: the lapse discards the moves in their order, and the held timer's expiry holds the portal. -/
theorem portalTimersExpire : Obligations.PortalTimersExpire := by
  constructor
  · intro s p hdue hleaf hsensor
    have hlapse := State.lapse_of_sensor (s := s) hsensor
    have hself : (s.lapse p).portals[p] = s.portals[p].endCycle .secure := s.lapse_val p
    have hquiet : Quiet s (s.lapse p) := Quiet.lapse hleaf
    refine ⟨_, exec_unlockExpiry_released hdue hleaf, ?_, ?_, ?_, ?_, ?_, fun q hq => s.lapse_other p q hq, ?_, ?_⟩
    case refine_2 =>
      rw [← hquiet.portalRec p]
      refine State.drive_strike_secure (hquiet.toKeeps.running (State.running_of_unlockDue hdue)) ?_ ?_
      · rw [hself]
        exact LeafState.noConfusion
      · rw [hself]
        exact LeafState.noConfusion
    case refine_6 =>
      rw [hlapse]
      apply State.eq_of_fields <;> simp
    case refine_7 =>
      intro hroom
      rw [State.drive_journal, hlapse, State.discardAll_journal]
      · rfl
      · exact hroom
    all_goals
      rw [State.drive_portals, hself]
      rfl
  · intro s p start limit hrun hleaf hheld hlimit
    have hdue : s.heldDue p = true := by
      rw [State.heldDue, hrun, hheld]
      exact State.due_now s
    have hexec : exec (.heldTimerExpiry p) s = .next (s.expireHeld p).drive :=
      done_of_eq (timed_due (due := (·.heldDue p)) hdue)
    have hexpire := State.expireHeld_opened hleaf hheld hlimit
    have hself : (s.expireHeld p).portals[p] =
        { s.portals[p] with leaf := .held, held := some { start := start, expiry := none } } := by
      rw [hexpire, State.raiseBoth_portals, State.note, State.append_portals, State.modPortal_self, hheld]
      rfl
    refine ⟨_, hexec, hself, ?_, ?_, ?_, ?_, ?_, ?_⟩
    · rw [State.drive_journal, hexpire, State.raiseBoth_journal, State.note, State.append_getLast?]
      rfl
    · rw [State.drive_office, hexpire]
      exact (State.raiseBoth_flags _ .held).1
    · rw [State.drive_field, hexpire]
      exact (State.raiseBoth_flags _ .held).2
    · exact State.drive_alarm_of_leaf ((Quiet.expireHeld s p).toKeeps.running hrun) (.inr (by rw [hself]))
    · intro q hq
      rw [State.drive_portals, hexpire, State.raiseBoth_portals, State.note, State.append_portals,
        State.modPortal_other _ p q _ (Ne.symm hq)]
    · apply State.eq_of_fields <;> simp

end Sys2Proof.Machine

/-! PROOFS. PortBlind: the operations of the blocks do not look at a port's state: two states that agree but for one port
agree but for that port after each of them. -/

namespace Sys2Proof.Machine

/-- The part with another state of a port. -/
def State.withPort (s : State) (p : Port) (x : PortState) : State := s.modPort p (fun _ => x)

/-- Two states agree but for the state of a port. -/
def AlikeBut (p : Port) (s t : State) : Prop := ∃ x, t = s.withPort p x

theorem AlikeBut.endFrame (p : Port) (s : State) : AlikeBut p s (s.endFrame p) := by
  cases p
  · exact ⟨(s.endFrame .office).office, rfl⟩
  · exact ⟨(s.endFrame .field).field, rfl⟩

theorem AlikeBut.holdReply (p : Port) (s : State) (r : Reply) : AlikeBut p s (s.holdReply p r) := by
  cases p
  · exact ⟨{ s.office with reply := some r }, rfl⟩
  · exact ⟨{ s.field with reply := some r }, rfl⟩

theorem AlikeBut.trans {p : Port} {s t u : State} (h : AlikeBut p s t) (k : AlikeBut p t u) : AlikeBut p s u := by
  obtain ⟨x, rfl⟩ := h
  obtain ⟨y, rfl⟩ := k
  cases p
  · exact ⟨y, rfl⟩
  · exact ⟨y, rfl⟩

section
variable {p : Port} {s t : State}

/-- Agreeing states agree in everything but the ports. -/
theorem AlikeBut.fields (h : AlikeBut p s t) :
    t.pending = s.pending ∧ t.power = s.power ∧ t.pins = s.pins ∧ t.clock = s.clock ∧ t.store = s.store
      ∧ t.roster = s.roster ∧ t.portals = s.portals ∧ t.cars = s.cars ∧ t.referrals = s.referrals
      ∧ t.ticketCounter = s.ticketCounter ∧ t.fire = s.fire ∧ t.journal = s.journal ∧ t.outs = s.outs
      ∧ t.freeCount = s.freeCount := by
  obtain ⟨x, rfl⟩ := h
  cases p <;> exact ⟨rfl, rfl, rfl, rfl, rfl, rfl, rfl, rfl, rfl, rfl, rfl, rfl, rfl, rfl⟩

theorem AlikeBut.office_field (h : AlikeBut .office s t) : t.field = s.field := by
  obtain ⟨x, rfl⟩ := h
  rfl

theorem AlikeBut.field_office (h : AlikeBut .field s t) : t.office = s.office := by
  obtain ⟨x, rfl⟩ := h
  rfl

/-- A run of operations that do not look at the port does not look at it. -/
theorem AlikeBut.foldl {α : Type} {f : State → α → State} (hf : ∀ s t a, AlikeBut p s t → AlikeBut p (f s a) (f t a))
    (h : AlikeBut p s t) (l : List α) : AlikeBut p (l.foldl f s) (l.foldl f t) := by
  induction l generalizing s t with
  | nil => exact h
  | cons a l ih => exact ih (hf s t a h)

theorem AlikeBut.modPortal (h : AlikeBut p s t) (q : Fin 16) (f : Portal → Portal) :
    AlikeBut p (s.modPortal q f) (t.modPortal q f) := by
  obtain ⟨x, rfl⟩ := h
  cases p <;> exact ⟨x, rfl⟩

theorem AlikeBut.raise (h : AlikeBut p s t) (q : Port) (f : Flag) : AlikeBut p (s.raise q f) (t.raise q f) := by
  obtain ⟨x, rfl⟩ := h
  cases p
  · cases q
    · exact ⟨{ x with flags := x.flags ||| f.bit }, rfl⟩
    · exact ⟨x, rfl⟩
  · cases q
    · exact ⟨x, rfl⟩
    · exact ⟨{ x with flags := x.flags ||| f.bit }, rfl⟩

theorem AlikeBut.append (h : AlikeBut p s t) (r : Record) : AlikeBut p (s.append r) (t.append r) := by
  have hjournal : t.journal = s.journal := h.fields.2.2.2.2.2.2.2.2.2.2.2.1
  have hgrown (l : List Record) : AlikeBut p { s with journal := l } { t with journal := l } := by
    obtain ⟨x, rfl⟩ := h
    cases p <;> exact ⟨x, rfl⟩
  unfold State.append
  dsimp only
  rw [hjournal]
  split
  · split
    · exact (hgrown _).raise _ _
    · exact hgrown _
  · exact (hgrown _).raise _ _

theorem AlikeBut.blankRecord (h : AlikeBut p s t) (k : Kind) : t.blankRecord k = s.blankRecord k :=
  State.blankRecord_congr h.fields.2.2.2.1 k

theorem AlikeBut.note (h : AlikeBut p s t) (k : Kind) (x y : Option Nat) : AlikeBut p (s.note k x y) (t.note k x y) := by
  rw [State.note, State.note, h.blankRecord]
  exact h.append _

/-! ## Commits -/

/-- The part with another journal and other port states. -/
def State.withLog (s : State) (j : List Record) (o f : PortState) : State := { s with journal := j, office := o, field := f }

theorem State.spendBudget_withLog (s : State) (j : List Record) (o f : PortState) (id : Nat) :
    (s.withLog j o f).spendBudget id = (s.spendBudget id).withLog j o f := by
  have hstore : (s.withLog j o f).store = s.store := rfl
  unfold State.spendBudget
  rw [hstore]
  repeat' split
  all_goals rfl

theorem State.createEntry_withLog (s : State) (j : List Record) (o f : PortState) (id zone : Nat) :
    (s.withLog j o f).createEntry id zone = (s.createEntry id zone).withLog j o f :=
  State.spendBudget_withLog { s with roster := s.roster ++ [s.newEntry id zone] } j o f id

theorem State.removeEntry_withLog (s : State) (j : List Record) (o f : PortState) (id : Nat) :
    (s.withLog j o f).removeEntry id = (s.removeEntry id).withLog j o f := by
  have hentry : (s.withLog j o f).entryOf id = s.entryOf id := rfl
  cases hcar : (s.entryOf id).bind (·.car) with
  | none =>
    rw [State.removeEntry_of_no_car hcar, State.removeEntry_of_no_car (hentry ▸ hcar)]
    rfl
  | some c =>
    rw [State.removeEntry_of_car hcar, State.removeEntry_of_car (hentry ▸ hcar)]
    rfl

/-- A commit looks neither at the journal nor at a port. -/
theorem State.commit_withLog (s : State) (j : List Record) (o f : PortState) (m : Move) :
    (s.withLog j o f).commit m = (s.commit m).withLog j o f := by
  have hfire : (s.withLog j o f).fire = s.fire := rfl
  have hentry : (s.withLog j o f).entryOf m.id = s.entryOf m.id := rfl
  unfold State.commit State.applyMove
  rw [hfire, hentry]
  repeat' split
  · rfl
  · exact s.createEntry_withLog j o f m.id m.toZone
  · rfl
  · exact s.removeEntry_withLog j o f m.id
  · rfl

theorem State.commit_withPort (s : State) (p : Port) (x : PortState) (m : Move) :
    (s.withPort p x).commit m = (s.commit m).withPort p x := by
  cases p
  · refine (s.commit_withLog s.journal x s.field m).trans ?_
    apply State.eq_of_fields <;> simp [State.withLog, State.withPort, State.modPort]
  · refine (s.commit_withLog s.journal s.office x m).trans ?_
    apply State.eq_of_fields <;> simp [State.withLog, State.withPort, State.modPort]

theorem AlikeBut.commit (h : AlikeBut p s t) (m : Move) : AlikeBut p (s.commit m) (t.commit m) := by
  obtain ⟨x, rfl⟩ := h
  exact ⟨x, s.commit_withPort p x m⟩

theorem AlikeBut.commitAll (h : AlikeBut p s t) (ms : List Move) : AlikeBut p (s.commitAll ms) (t.commitAll ms) :=
  h.foldl (fun _ _ m k => k.commit m) ms

/-! ## Modes -/

theorem AlikeBut.discardAll (h : AlikeBut p s t) (q : Fin 16) (ms : List Move) :
    AlikeBut p (s.discardAll q ms) (t.discardAll q ms) :=
  h.foldl (fun s t m k => by rw [k.blankRecord]; exact k.append _) ms

theorem AlikeBut.portal (h : AlikeBut p s t) (q : Fin 16) : t.portals[q] = s.portals[q] := by
  rw [h.fields.2.2.2.2.2.2.1]

theorem AlikeBut.portalRec (h : AlikeBut p s t) (q : Fin 16) : t.portalRec q = s.portalRec q := by
  rw [State.portalRec, State.portalRec, h.fields.2.2.2.2.1]

theorem AlikeBut.lapse (h : AlikeBut p s t) (q : Fin 16) : AlikeBut p (s.lapse q) (t.lapse q) := by
  have hended := h.modPortal q (Portal.endCycle .secure)
  unfold State.lapse
  dsimp only
  rw [h.portal, h.portalRec]
  split
  · exact hended.discardAll q _
  · exact hended.commitAll _

theorem AlikeBut.resolve (h : AlikeBut p s t) (e : Referral) (o : EntryOutcome) :
    AlikeBut p (s.resolve e o) (t.resolve e o) := by
  have hmapped : AlikeBut p { s with referrals := s.referrals.map (resolveIn e.ticket o) }
      { t with referrals := t.referrals.map (resolveIn e.ticket o) } := by
    obtain ⟨x, rfl⟩ := h
    cases p <;> exact ⟨x, rfl⟩
  unfold State.resolve
  dsimp only
  rw [State.outcomeRecord_congr hmapped.fields.2.2.2.1]
  exact (hmapped.append _).raise _ _

theorem AlikeBut.freeReferrals (h : AlikeBut p s t) (q : Fin 16) : AlikeBut p (s.freeReferrals q) (t.freeReferrals q) := by
  rw [State.freeReferrals, State.freeReferrals, h.fields.2.2.2.2.2.2.2.2.1]
  exact h.foldl (fun _ _ e k => k.resolve e _) _

theorem AlikeBut.heldSeconds (h : AlikeBut p s t) (q : Portal) : t.heldSeconds q = s.heldSeconds q := by
  rw [State.heldSeconds, State.heldSeconds, h.fields.2.2.2.1]

theorem AlikeBut.freePortal (h : AlikeBut p s t) (q : Fin 16) : AlikeBut p (s.freePortal q) (t.freePortal q) := by
  have hdiscarded := (h.modPortal q (Portal.endCycle .free)).discardAll q s.portals[q].moves
  unfold State.freePortal
  dsimp only
  rw [h.portal, h.heldSeconds]
  refine AlikeBut.freeReferrals ?_ q
  cases s.portals[q].leaf with
  | held => exact hdiscarded.note _ _ _
  | forced => exact hdiscarded.note _ _ _
  | secure | released | opened | free => exact hdiscarded

theorem AlikeBut.heldStart (h : AlikeBut p s t) (q : Fin 16) : t.heldStart q = s.heldStart q := by
  rw [State.heldStart, State.heldStart, h.portalRec, State.after, State.after, h.fields.2.2.2.1]

theorem AlikeBut.leaveFree (h : AlikeBut p s t) (q : Fin 16) : AlikeBut p (s.leaveFree q) (t.leaveFree q) := by
  rw [State.leaveFree, State.leaveFree, h.portal, h.heldStart]
  split <;> exact h.modPortal q _

theorem AlikeBut.announceMode (h : AlikeBut p s t) (q : Fin 16) (m : Mode) :
    AlikeBut p (s.announceMode q m) (t.announceMode q m) := by
  unfold State.announceMode
  dsimp only
  rw [h.blankRecord]
  exact ((h.modPortal q _).append _).raise _ _

theorem AlikeBut.enterMode (h : AlikeBut p s t) (q : Fin 16) (m : Mode) : AlikeBut p (s.enterMode q m) (t.enterMode q m) := by
  have hannounced := h.announceMode q m
  rw [State.enterMode_eq, State.enterMode_eq, h.portal]
  repeat' split
  · exact hannounced.freePortal q
  · exact hannounced.leaveFree q
  · exact hannounced.lapse q
  · exact hannounced

theorem AlikeBut.effectiveMode (h : AlikeBut p s t) (q : Fin 16) : t.effectiveMode q = s.effectiveMode q := by
  rw [State.effectiveMode, State.effectiveMode, State.egressUnderFire, State.egressUnderFire, h.portal, h.portalRec,
    h.fields.2.2.2.2.2.2.2.2.2.2.1]

theorem AlikeBut.recomputeMode (h : AlikeBut p s t) (q : Fin 16) : AlikeBut p (s.recomputeMode q) (t.recomputeMode q) := by
  rw [State.recomputeMode, State.recomputeMode, h.portal, h.effectiveMode]
  split
  · exact h
  · exact h.enterMode q _

end

end Sys2Proof.Machine

/-! PROOFS. Modes: how a new effective mode takes effect at its portal, HOLD_MODE, the fire onset and the fire clear
(R99 to R104, R151, R153). -/

namespace Sys2Proof.Machine

/-! ## The portal that enters a mode (R100 to R103) -/

/-- A portal that has entered a mode: freed, out of FREE with its leaf open or not, out of RELEASED by LOCKED, or with
its cycle as it was. -/
def Portal.entered (m : Mode) (h : HeldTimer) (q : Portal) : Portal :=
  if m = .free then { q with mode := m }.endCycle .free
  else if q.mode = .free then
    if q.position = .opened then { q with mode := m }.foundOpen h else { q with mode := m }.endCycle .secure
  else if m = .locked ∧ q.leaf = .released then { q with mode := m }.endCycle .secure
  else { q with mode := m }

section
variable {s : State} {p : Fin 16}

theorem State.leaveFree_self :
    (s.leaveFree p).portals[p] =
      if s.portals[p].position = .opened then s.portals[p].foundOpen (s.heldStart p) else s.portals[p].endCycle .secure := by
  unfold State.leaveFree
  split <;> rw [State.modPortal_self]

theorem State.announceMode_heldStart (m : Mode) : (s.announceMode p m).heldStart p = s.heldStart p := by
  have hrec : (s.announceMode p m).portalRec p = s.portalRec p := by simp [State.announceMode, State.portalRec]
  have hclock : (s.announceMode p m).clock = s.clock := by simp [State.announceMode]
  rw [State.heldStart, State.heldStart, hrec, State.after, State.after, hclock]

theorem State.enterMode_self (s : State) (p : Fin 16) (m : Mode) :
    (s.enterMode p m).portals[p] = s.portals[p].entered m (s.heldStart p) := by
  have hfreed (t : State) : (t.freePortal p).portals[p] = t.portals[p].endCycle .free := t.freePortal_val p
  have hlapsed (t : State) : (t.lapse p).portals[p] = t.portals[p].endCycle .secure := t.lapse_val p
  rw [State.enterMode_eq, Portal.entered]
  by_cases hfree : m = .free
  · rw [if_pos hfree, if_pos hfree, hfreed, State.announceMode_self]
  rw [if_neg hfree, if_neg hfree]
  by_cases hleave : s.portals[p].mode = .free
  · rw [if_pos hleave, if_pos hleave, State.leaveFree_self, State.announceMode_self, State.announceMode_heldStart]
  rw [if_neg hleave, if_neg hleave]
  by_cases hlock : m = .locked ∧ s.portals[p].leaf = .released
  · rw [if_pos (by simpa using hlock), if_pos hlock, hlapsed, State.announceMode_self]
  · rw [if_neg (by simpa using hlock), if_neg hlock, State.announceMode_self]

theorem Portal.entered_recompute (m : Mode) (h : HeldTimer) (q : Portal) : (q.entered m h).recompute = q.recompute := by
  unfold Portal.entered
  repeat' split
  all_goals rfl

/-- A recomputation of the mode that finds another one. -/
theorem State.recomputeMode_of_change (h : s.effectiveMode p ≠ s.portals[p].mode) :
    s.recomputeMode p = s.enterMode p (s.effectiveMode p) := if_neg h

theorem State.recomputeMode_recompute (s : State) (p : Fin 16) :
    (s.recomputeMode p).portals[p].recompute = s.portals[p].recompute := by
  unfold State.recomputeMode
  split
  · rfl
  · rw [State.enterMode_self, Portal.entered_recompute]

/-! ## Where a recomputation frees the portal (R101, R142) -/

/-- Freeing a portal leaves no PENDING referral at its entry reader. -/
theorem State.freePortal_pending {e : Referral} (he : e ∈ (s.freePortal p).referrals) (hstate : e.state = .pending) :
    e.reader ≠ 2 * p.val := by
  unfold State.freePortal State.freeReferrals at he
  have h := State.resolvePicked_pending (g := fun e => e.reader == entryReader p) he hstate
  simpa [entryReader] using h

/-- A freed portal leaves the Store, the roster and the cars. -/
theorem State.recomputeMode_free_frame (h : s.effectiveMode p = .free) :
    (s.recomputeMode p).store = s.store ∧ (s.recomputeMode p).roster = s.roster ∧ (s.recomputeMode p).cars = s.cars := by
  unfold State.recomputeMode
  split
  · exact ⟨rfl, rfl, rfl⟩
  · rw [h, State.enterMode_eq, if_pos rfl]
    simp [State.announceMode]

/-! ## The records of a new mode -/

/-- The MODE record of a new mode. -/
def State.modeRecord (s : State) (p : Fin 16) (m : Mode) : Record :=
  { s.blankRecord .mode with subject := some p.val, outcome := some (.mode m) }

/-- The record of a HELD or FORCED state that is cleared by freeing the portal. -/
def State.clearedRecords (s : State) (p : Fin 16) (q : Portal) : List Record :=
  if q.leaf = .held then
    [{ s.blankRecord .heldCleared with subject := some p.val, count := some (s.heldSeconds q) }]
  else if q.leaf = .forced then
    [{ s.blankRecord .forcedCleared with subject := some p.val, count := some q.passages }]
  else []

theorem State.announceMode_journal (m : Mode) (hroom : s.journal.length < 512) :
    (s.announceMode p m).journal = s.journal ++ [s.modeRecord p m] := by
  unfold State.announceMode
  dsimp only
  rw [State.raise_journal, State.append_journal_of_room _ (by simpa using hroom)]
  rfl

/-- Freeing a portal discards its moves, clears its HELD or FORCED state and frees its referrals, in this order. -/
theorem State.freePortal_journal (hroom : s.journal.length + 1 + s.portals[p].moves.length + s.referrals.length ≤ 512) :
    (s.freePortal p).journal =
      s.journal ++ s.portals[p].moves.map (s.notUsedRecord p) ++ s.clearedRecords p s.portals[p]
        ++ (s.referrals.filter (fun e => e.isPending && e.reader == entryReader p)).map
            (s.resolutionRecord .freed) := by
  obtain ⟨t, ht⟩ : ∃ t, t = (s.modPortal p (Portal.endCycle .free)).discardAll p s.portals[p].moves := ⟨_, rfl⟩
  have htj : t.journal = s.journal ++ s.portals[p].moves.map (s.notUsedRecord p) := by
    rw [ht, State.discardAll_journal (by simp only [State.modPortal_journal]; omega)]
    rfl
  have htc : t.clock = s.clock := by simp [ht]
  have htr : t.referrals = s.referrals := by simp [ht]
  have hcleared (k : Kind) (n : Nat) : (t.note k (some p.val) (some n)).journal =
      t.journal ++ [{ s.blankRecord k with subject := some p.val, count := some n }] := by
    rw [State.note, State.append_journal_of_room _ (by rw [htj, List.length_append, List.length_map]; omega),
      State.blankRecord_congr htc]
  obtain ⟨u, hu, huj, huc, hur⟩ : ∃ u : State, s.freePortal p = u.freeReferrals p
      ∧ u.journal = t.journal ++ s.clearedRecords p s.portals[p] ∧ u.clock = s.clock ∧ u.referrals = s.referrals := by
    unfold State.freePortal State.clearedRecords
    dsimp only
    rw [← ht]
    cases s.portals[p].leaf with
    | held => exact ⟨_, rfl, hcleared _ _, by simp [State.note, htc], by simp [State.note, htr]⟩
    | forced => exact ⟨_, rfl, hcleared _ _, by simp [State.note, htc], by simp [State.note, htr]⟩
    | secure | released | opened | free => exact ⟨_, rfl, (List.append_nil _).symm, htc, htr⟩
  have hshort : (s.clearedRecords p s.portals[p]).length ≤ 1 := by
    unfold State.clearedRecords
    repeat' split
    all_goals simp
  have hpicked := List.length_filter_le (fun e : Referral => e.isPending && e.reader == entryReader p) s.referrals
  rw [hu, State.freeReferrals, State.resolveAll_journal, huj, htj, hur]
  · congr 1
    exact List.map_congr_left fun e _ => State.outcomeRecord_congr huc e _ _ _
  · rw [huj, htj, hur, List.length_append, List.length_append, List.length_map]
    omega

/-- A lapse has NOT_USED records where a leaf sensor is fitted, and none otherwise. -/
theorem State.lapse_journal (hroom : s.journal.length + s.portals[p].moves.length ≤ 512) :
    (s.lapse p).journal =
      s.journal ++ (if (s.portalRec p).leafSensor = true then s.portals[p].moves.map (s.notUsedRecord p) else []) := by
  by_cases hsensor : (s.portalRec p).leafSensor = true
  · rw [State.lapse_of_sensor hsensor, State.discardAll_journal (by simpa using hroom), if_pos hsensor]
    rfl
  · rw [State.lapse_of_no_sensor (by simpa using hsensor), if_neg hsensor]
    simp

/-- The records of a mode that takes effect, in their order. -/
theorem State.enterMode_journal {m : Mode}
    (hroom : s.journal.length + 2 + s.portals[p].moves.length + s.referrals.length ≤ 512) :
    (s.enterMode p m).journal =
      s.journal ++ [s.modeRecord p m]
        ++ (if m = .free ∨ (m = .locked ∧ s.portals[p].mode ≠ .free ∧ s.portals[p].leaf = .released
                ∧ (s.portalRec p).leafSensor = true) then s.portals[p].moves.map (s.notUsedRecord p) else [])
        ++ (if m ≠ .free then [] else s.clearedRecords p s.portals[p])
        ++ (if m ≠ .free then []
            else (s.referrals.filter (fun e => e.isPending && e.reader == entryReader p)).map
              (s.resolutionRecord .freed)) := by
  have hannounced := State.announceMode_journal (p := p) m (s := s) (by omega)
  have hself := s.announceMode_self p m
  have hlength : (s.announceMode p m).journal.length = s.journal.length + 1 := by simp [hannounced]
  have hrec : (s.announceMode p m).portalRec p = s.portalRec p := by simp [State.announceMode, State.portalRec]
  have hclock : (s.announceMode p m).clock = s.clock := by simp [State.announceMode]
  have hreferrals : (s.announceMode p m).referrals = s.referrals := by simp [State.announceMode]
  have hnotUsed : (s.announceMode p m).notUsedRecord p = s.notUsedRecord p := by
    funext e
    rw [State.notUsedRecord, State.notUsedRecord, State.blankRecord_congr hclock]
  rw [State.enterMode_eq]
  by_cases hfree : m = .free
  · have hresolved : (s.announceMode p m).resolutionRecord .freed = s.resolutionRecord .freed := by
      funext e
      exact State.outcomeRecord_congr hclock e _ _ _
    have hcleared : (s.announceMode p m).clearedRecords p { s.portals[p] with mode := m } =
        s.clearedRecords p s.portals[p] := by
      simp only [State.clearedRecords, State.blankRecord_congr hclock, State.heldSeconds, hclock]
    rw [if_pos hfree, State.freePortal_journal (by rw [hself, hreferrals, hlength]; omega), hself, hannounced, hreferrals,
      hnotUsed, hresolved, hcleared, if_pos (.inl hfree), if_neg (not_not.mpr hfree), if_neg (not_not.mpr hfree)]
  rw [if_neg hfree, if_pos hfree, if_pos hfree, List.append_nil, List.append_nil]
  by_cases hleave : s.portals[p].mode = .free
  · rw [if_pos hleave, if_neg (by tauto), (State.leaveFree_frame _ p).2.2.2.2.2.2.2.2.2.2.1, hannounced, List.append_nil]
  rw [if_neg hleave]
  by_cases hlock : (m = .locked ∧ s.portals[p].leaf = .released)
  · rw [if_pos (by simpa using hlock), State.lapse_journal (by rw [hself, hlength]; dsimp only; omega), hself, hannounced, hrec,
      hnotUsed]
    refine congrArg (s.journal ++ [s.modeRecord p m] ++ ·) (if_congr ?_ rfl rfl)
    tauto
  · rw [if_neg (by simpa using hlock), if_neg (by tauto), hannounced, List.append_nil]

end

/-! ## Flags only rise (R166) -/

/-- Every flag of a port that stands in one state stands in another. -/
def FlagsRise (s t : State) : Prop :=
  ∀ i : Nat, (s.office.flags.getLsbD i = true → t.office.flags.getLsbD i = true)
    ∧ (s.field.flags.getLsbD i = true → t.field.flags.getLsbD i = true)

theorem FlagsRise.refl (s : State) : FlagsRise s s := fun _ => ⟨id, id⟩

theorem FlagsRise.trans {s t u : State} (h : FlagsRise s t) (k : FlagsRise t u) : FlagsRise s u :=
  fun i => ⟨(k i).1 ∘ (h i).1, (k i).2 ∘ (h i).2⟩

theorem FlagsRise.of_same {s t : State} (ho : t.office.flags = s.office.flags) (hf : t.field.flags = s.field.flags) :
    FlagsRise s t := fun i => by rw [ho, hf]; exact ⟨id, id⟩

theorem FlagsRise.foldl {α : Type} {f : State → α → State} (hf : ∀ s a, FlagsRise s (f s a)) (l : List α) (s : State) :
    FlagsRise s (l.foldl f s) :=
  foldl_invariant (P := FlagsRise s) (fun t a h => h.trans (hf t a)) l (FlagsRise.refl s)

theorem FlagsRise.raise (s : State) (p : Port) (f : Flag) : FlagsRise s (s.raise p f) := by
  intro i
  cases p <;> simp only [State.raise, State.modPort, BitVec.getLsbD_or, Bool.or_eq_true] <;> exact ⟨by tauto, by tauto⟩

theorem FlagsRise.raiseBoth (s : State) (f : Flag) : FlagsRise s (s.raiseBoth f) :=
  (FlagsRise.raise s .office f).trans (FlagsRise.raise _ .field f)

theorem FlagsRise.append (s : State) (r : Record) : FlagsRise s (s.append r) := by
  intro i
  refine ⟨?_, by rw [State.append_field]; exact id⟩
  by_cases hroom : s.journal.length < 512
  · rw [State.append_of_room r hroom]
    dsimp only
    split
    · rw [BitVec.getLsbD_or, Bool.or_eq_true]
      exact .inl
    · exact id
  · rw [State.append_of_full r (by omega), BitVec.getLsbD_or, Bool.or_eq_true]
    exact .inl

theorem FlagsRise.note (s : State) (k : Kind) (x y : Option Nat) : FlagsRise s (s.note k x y) := FlagsRise.append s _

theorem FlagsRise.discardAll (s : State) (p : Fin 16) (ms : List Move) : FlagsRise s (s.discardAll p ms) :=
  FlagsRise.foldl (fun _ _ => FlagsRise.append _ _) ms s

theorem FlagsRise.freePortal (s : State) (p : Fin 16) : FlagsRise s (s.freePortal p) := by
  have hdiscarded : FlagsRise s ((s.modPortal p (Portal.endCycle .free)).discardAll p s.portals[p].moves) :=
    FlagsRise.trans (t := s.modPortal p (Portal.endCycle .free)) (FlagsRise.of_same rfl rfl) (FlagsRise.discardAll _ _ _)
  have hresolve (t : State) (e : Referral) : FlagsRise t (t.resolve e .freed) :=
    FlagsRise.trans (t := { t with referrals := t.referrals.map (resolveIn e.ticket .freed) }) (FlagsRise.of_same rfl rfl)
      ((FlagsRise.append _ _).trans (FlagsRise.raise _ _ _))
  unfold State.freePortal
  dsimp only
  refine FlagsRise.trans ?_ (FlagsRise.foldl hresolve _ _)
  cases s.portals[p].leaf with
  | held => exact hdiscarded.trans (FlagsRise.note _ _ _ _)
  | forced => exact hdiscarded.trans (FlagsRise.note _ _ _ _)
  | secure | released | opened | free => exact hdiscarded

theorem FlagsRise.lapse (s : State) (p : Fin 16) : FlagsRise s (s.lapse p) := by
  unfold State.lapse
  dsimp only
  split
  · exact FlagsRise.trans (t := s.modPortal p (Portal.endCycle .secure)) (FlagsRise.of_same rfl rfl)
      (FlagsRise.discardAll _ _ _)
  · exact FlagsRise.of_same (by simp) (by simp)

theorem FlagsRise.announceMode (s : State) (p : Fin 16) (m : Mode) : FlagsRise s (s.announceMode p m) :=
  FlagsRise.trans (t := s.modPortal p (fun q => { q with mode := m })) (FlagsRise.of_same rfl rfl)
    ((FlagsRise.append _ _).trans (FlagsRise.raise _ _ _))

/-- What a mode that has been announced does to the leaf state clears no flag. -/
theorem FlagsRise.enterMode_announced (s : State) (p : Fin 16) (m : Mode) :
    FlagsRise (s.announceMode p m) (s.enterMode p m) := by
  rw [State.enterMode_eq]
  repeat' split
  · exact FlagsRise.freePortal _ p
  · exact FlagsRise.of_same (by simp) (by simp)
  · exact FlagsRise.lapse _ p
  · exact FlagsRise.refl _

theorem FlagsRise.recomputeMode (s : State) (p : Fin 16) : FlagsRise s (s.recomputeMode p) := by
  unfold State.recomputeMode
  split
  · exact FlagsRise.refl s
  · exact (FlagsRise.announceMode s p _).trans (FlagsRise.enterMode_announced s p _)

/-- A flag that is raised on a port stands there. -/
theorem State.raise_flag (s : State) (p : Port) (f : Flag) : ((s.raise p f).port p).flags.getLsbD f.code = true := by
  have hbit : f.bit.getLsbD f.code = true := by cases f <;> decide
  cases p <;> simp [State.raise, State.modPort, State.port, hbit]

/-- A new mode has MODE_CHANGE raised on the Field Port. -/
theorem State.enterMode_flag (s : State) (p : Fin 16) (m : Mode) : (s.enterMode p m).field.flags.getLsbD 13 = true :=
  ((FlagsRise.enterMode_announced s p m) 13).2 (State.raise_flag _ .field .modeChange)

/-! ## HOLD_MODE (R104) -/

/-- The hold of a portal, with the recomputation that follows it. -/
def State.setHold (s : State) (p : Fin 16) (m : Mode) : State :=
  (s.modPortal p (fun q => { q with hold := some m })).recomputeMode p

theorem mode?_code (m : Mode) : mode? m.code = some m := by cases m <;> rfl

theorem mode?_of_outside {n : Nat} (h : 3 < n) : mode? n = none := by
  match n, h with
  | n + 4, _ => rfl

theorem holdMode_taken (s : State) (p : Fin 16) (m : Mode) :
    holdMode p.val m.code s = (s.setHold p m, Reply.done (byte1 (s.setHold p m).portals[p].mode.code)) := by
  simp only [holdMode, portal?_val, mode?_code]
  rfl

theorem holdMode_of_outside {portal mode : Nat} (h : 15 < portal ∨ 3 < mode) (s : State) :
    holdMode portal mode s = (s, Reply.refusal .badValue) := by
  unfold holdMode
  rcases h with h | h
  · rw [portal?_of_outside h]
  · rw [mode?_of_outside h]
    cases portal? portal <;> rfl

/-- The mode that a hold gives: the hold, but FREE at an egress portal under fire. -/
theorem State.effectiveMode_of_hold {s : State} {p : Fin 16} {m : Mode} (h : s.portals[p].hold = some m) :
    s.effectiveMode p = if s.egressUnderFire p = true then .free else m := by
  rw [State.effectiveMode, h]

theorem State.setHold_mode (s : State) (p : Fin 16) (m : Mode) :
    (s.setHold p m).portals[p].mode = if s.egressUnderFire p = true then .free else m := by
  rw [State.setHold, State.recomputeMode_mode, State.effectiveMode_of_hold (m := m) (by rw [State.modPortal_self])]
  rfl

/-- The event of a HOLD_MODE whose checks pass. -/
theorem exec_holdMode {s : State} (hack : s.acknowledges .office = true) (p : Fin 16) (m : Mode) :
    exec (.holdMode p.val m.code) s =
      .next (((s.endFrame .office).setHold p m).holdReply .office
        (Reply.done (byte1 ((s.endFrame .office).setHold p m).portals[p].mode.code))).drive :=
  done_request hack (holdMode_taken (s.endFrame .office) p m)

/-- Settles O52: the portal takes the hold, and its mode is recomputed from it. -/
theorem holdModeHolds : Obligations.HoldModeHolds := by
  refine ⟨fun s p m hack => ?_, fun s portal mode hack hout => done_request_office_reads hack (holdMode_of_outside hout _)⟩
  have hmode : ((s.endFrame .office).setHold p m).portals[p].mode = if s.egressUnderFire p = true then .free else m :=
    (s.endFrame .office).setHold_mode p m
  have hhold : ((s.endFrame .office).setHold p m).portals[p].hold = some m := by
    rw [State.setHold, State.recomputeMode_hold, State.modPortal_self]
  refine ⟨_, exec_holdMode hack p m, hhold, hmode, ?_, fun q hq => ?_, ?_⟩
  · rw [hmode]
    show some (Reply.done (byte1 (if s.egressUnderFire p = true then Mode.free else m).code)) = _
    split <;> rfl
  · show ((s.endFrame .office).setHold p m).portals[q] = s.portals[q]
    rw [State.setHold, State.recomputeMode_other _ _ _ hq, State.modPortal_other _ _ _ _ hq.symm]
    rfl
  · apply State.eq_of_fields
    case portals | roster | cars | store | referrals | journal | office | field | outs => rfl
    all_goals simp [State.setHold]

/-! ## A new mode takes effect (R100 to R103) -/

/-- Settles O54: the portal, the referrals and the records of the mode that it enters; a hold looks at no port. -/
theorem modeTakesEffect : Obligations.ModeTakesEffect := by
  refine ⟨fun s p => ⟨State.recomputeMode_of_same, fun hchange => ?_⟩, ?hold⟩
  case hold =>
    intro s u p m hack hu
    have halike : AlikeBut .office u (((s.endFrame .office).setHold p m).holdReply .office
        (Reply.done (byte1 ((s.endFrame .office).setHold p m).portals[p].mode.code))) := by
      rw [hu]
      exact ((AlikeBut.endFrame .office s).modPortal p _ |>.recomputeMode p).trans (AlikeBut.holdReply _ _ _)
    obtain ⟨_, _, _, _, _, hroster, hportals, _, hreferrals, _, _, hjournal, _⟩ := halike.fields
    exact ⟨_, exec_holdMode hack p m, hportals, hjournal, hreferrals, hroster, halike.office_field⟩
  have henter := State.recomputeMode_of_change hchange
  have hself : (s.recomputeMode p).portals[p] = s.portals[p].entered (s.effectiveMode p) (s.heldStart p) := by
    rw [henter, State.enterMode_self]
  refine ⟨s.recomputeMode_mode p, ?flag, fun q hq => s.recomputeMode_other p q hq, ?free, ?shut, ?opened, ?locked, ?records⟩
  case flag =>
    rw [henter]
    exact s.enterMode_flag p _
  case free =>
    intro hfree
    rw [hself, Portal.entered, if_pos hfree]
    refine ⟨rfl, rfl, rfl, rfl, fun e he hstate => ?_⟩
    rw [henter, State.enterMode_eq, if_pos hfree] at he
    exact State.freePortal_pending he hstate
  case shut =>
    intro hmode hposition
    rw [hself, Portal.entered, if_neg (fun h => hchange (h.trans hmode.symm)), if_pos hmode, if_neg hposition]
    rfl
  case opened =>
    intro hmode hposition
    rw [hself, Portal.entered, if_neg (fun h => hchange (h.trans hmode.symm)), if_pos hmode, if_pos hposition]
    exact ⟨rfl, rfl, rfl, rfl⟩
  case locked =>
    intro hlocked hmode hleaf
    rw [hself, Portal.entered, if_neg (by rw [hlocked]; decide), if_neg hmode, if_pos ⟨hlocked, hleaf⟩]
    exact ⟨rfl, rfl⟩
  case records =>
    intro hroom
    rw [henter, State.enterMode_journal hroom]
    have hseconds : s.heldSeconds s.portals[p] =
        match s.portals[p].held with | some h => min ((s.clock.tick - h.start) / 100) 65535 | none => 0 := by
      unfold State.heldSeconds
      cases s.portals[p].held <;> rfl
    simp only [State.clearedRecords, hseconds]
    rfl

/-! ## The fire clear (R77, R153) -/

/-- Settles O57: the clear marks the roster and every portal, and a portal that takes it recomputes its mode. -/
theorem fireClearMarks : Obligations.FireClearMarks := by
  intro s
  constructor
  · intro hrun hdue
    have hexec : exec .fireClear s = .next s.fireEnds.drive := done_of_eq (timed_due hdue)
    obtain ⟨u, hu⟩ : ∃ u, u =
        ((s.setFire false).markAll.note .fireOff none (some s.roster.length)).raiseBoth .fire := ⟨_, rfl⟩
    have hends : s.fireEnds = allPortals.foldl awaitRecompute u := by rw [State.fireEnds_running hrun, hu]
    obtain ⟨v, hv⟩ : ∃ v, s.fireEnds = { u with portals := v } := by
      rw [hends]
      exact foldl_modPortal_frame _ allPortals u
    have hportals (p : Fin 16) : s.fireEnds.portals[p] = { s.portals[p] with recompute := true } := by
      have h := foldl_modPortal_all (fun q => { q with recompute := true }) u p
      rw [show u.portals = s.portals by simp [hu, State.note, State.setFire]] at h
      rw [hends]
      exact h
    have hflags := State.raiseBoth_flags ((s.setFire false).markAll.note .fireOff none (some s.roster.length)) .fire
    rw [← hu] at hflags
    refine ⟨_, hexec, ?_, ?_, ?_, ?_, ?_, hportals, ?_⟩
    · rw [State.drive_fire, hv]
      simp [hu, State.note, State.setFire]
    · rw [State.drive_roster, hv]
      simp [hu, State.note, State.markAll, State.setFire]
    · rw [State.drive_journal, hv]
      show u.journal.getLast? = _
      rw [hu, State.raiseBoth_journal, State.note, State.append_getLast?]
      rfl
    · rw [State.drive_office, hv]
      exact hflags.1
    · rw [State.drive_field, hv]
      exact hflags.2
    · apply State.eq_of_fields <;> simp [hv, hu, State.note, State.setFire]
  · intro p hrun hdue
    have htaken : s.recomputeDue p = true := by simpa [State.recomputeDue, hrun] using hdue
    have hexec : exec (.fireClearRecomputation p) s = .next (s.takeClear p).drive :=
      done_of_eq (timed_due (due := (·.recomputeDue p)) htaken)
    have hmode : (s.takeClear p).portals[p].mode = s.effectiveMode p := by
      rw [State.takeClear, State.recomputeMode_mode, State.effectiveMode, State.effectiveMode, State.modPortal_self]
      rfl
    refine ⟨_, hexec, ?_, hmode, fun q hq => ?_, ?_⟩
    · rw [State.drive_portals, State.takeClear, State.recomputeMode_recompute, State.modPortal_self]
    · rw [State.drive_portals, State.takeClear, State.recomputeMode_other _ _ _ hq, State.modPortal_other _ _ _ _ hq.symm]
    · apply State.eq_of_fields <;> simp [State.takeClear]

/-! ## The fire onset (R151) -/

/-- Egress portals that are recomputed under fire leave the Store, the roster, the cars and every other portal. -/
theorem foldl_recomputeMode_egress {l : List (Fin 16)} {s : State} (hfire : s.fire.active = true)
    (hegress : ∀ p ∈ l, (s.portalRec p).egress = true) :
    (l.foldl State.recomputeMode s).store = s.store ∧ (l.foldl State.recomputeMode s).roster = s.roster
      ∧ (l.foldl State.recomputeMode s).cars = s.cars
      ∧ ∀ q : Fin 16, (s.portalRec q).egress = false → (l.foldl State.recomputeMode s).portals[q] = s.portals[q] := by
  induction l generalizing s with
  | nil => exact ⟨rfl, rfl, rfl, fun _ _ => rfl⟩
  | cons p l ih =>
    have hp := hegress p List.mem_cons_self
    have hfree : s.effectiveMode p = .free := by
      rw [State.effectiveMode, if_pos (State.egressUnderFire_iff.mpr ⟨hfire, hp⟩)]
    obtain ⟨hstore, hroster, hcars⟩ := State.recomputeMode_free_frame hfree
    have hrec (q : Fin 16) : (s.recomputeMode p).portalRec q = s.portalRec q := by
      rw [State.portalRec, State.portalRec, hstore]
    obtain ⟨istore, iroster, icars, iportals⟩ := ih (s := s.recomputeMode p) (by simpa using hfire)
      (fun q hq => by rw [hrec]; exact hegress q (List.mem_cons_of_mem p hq))
    refine ⟨istore.trans hstore, iroster.trans hroster, icars.trans hcars, fun q hq => ?_⟩
    rw [List.foldl_cons, iportals q (by rwa [hrec]), State.recomputeMode_other]
    rintro rfl
    rw [hp] at hq
    exact Bool.noConfusion hq

/-- Where a FREE mode is a FREE leaf state, a recomputation keeps it so. -/
theorem State.recomputeMode_leaf_free {s : State} (h : ∀ q : Fin 16, s.portals[q].mode = .free → s.portals[q].leaf = .free)
    (p q : Fin 16) (hmode : (s.recomputeMode p).portals[q].mode = .free) : (s.recomputeMode p).portals[q].leaf = .free := by
  by_cases hq : q = p
  · subst hq
    rw [State.recomputeMode_mode] at hmode
    unfold State.recomputeMode
    split
    case isTrue hsame => exact h q (hsame.symm.trans hmode)
    case isFalse => rw [State.enterMode_leaf, if_pos hmode]
  · rw [State.recomputeMode_other _ _ _ hq] at hmode ⊢
    exact h q hmode

/-- The onset before the egress portals are recomputed: the fire state is ACTIVE, with its record and its flags. -/
def State.fireNoted (s : State) : State := (s.setFire true).noteFireOn

@[simp] theorem State.fireNoted_frame (s : State) :
    s.fireNoted.pending = s.pending ∧ s.fireNoted.power = s.power ∧ s.fireNoted.pins = s.pins
      ∧ s.fireNoted.clock = s.clock ∧ s.fireNoted.store = s.store ∧ s.fireNoted.roster = s.roster
      ∧ s.fireNoted.portals = s.portals ∧ s.fireNoted.cars = s.cars ∧ s.fireNoted.ticketCounter = s.ticketCounter
      ∧ s.fireNoted.fire = { s.fire with active := true, filter := none } ∧ s.fireNoted.freeCount = s.freeCount := by
  simp [State.fireNoted, State.noteFireOn, State.note, State.setFire]

theorem State.fireNoted_flags (s : State) :
    s.fireNoted.office.flags.getLsbD 7 = true ∧ s.fireNoted.field.flags.getLsbD 7 = true :=
  State.raiseBoth_flags _ .fire

@[simp] theorem State.fireNoted_running (s : State) : s.fireNoted.running = s.running := by simp [State.running]

@[simp] theorem State.fireNoted_portalRec (s : State) (p : Fin 16) : s.fireNoted.portalRec p = s.portalRec p := by
  simp [State.portalRec]

/-- Recomputations touch neither the queue of commands, the supplies, the lines, the clock, the ticket counter nor the fire
state. -/
theorem foldl_recomputeMode_frame (l : List (Fin 16)) (s : State) :
    (l.foldl State.recomputeMode s).pending = s.pending ∧ (l.foldl State.recomputeMode s).power = s.power
      ∧ (l.foldl State.recomputeMode s).pins = s.pins ∧ (l.foldl State.recomputeMode s).clock = s.clock
      ∧ (l.foldl State.recomputeMode s).ticketCounter = s.ticketCounter ∧ (l.foldl State.recomputeMode s).fire = s.fire
      ∧ (l.foldl State.recomputeMode s).freeCount = s.freeCount := by
  induction l generalizing s with
  | nil => exact ⟨rfl, rfl, rfl, rfl, rfl, rfl, rfl⟩
  | cons p l ih => simpa using ih (s.recomputeMode p)

/-- Settles O56: the onset recomputes the egress portals alone, each of which fire frees. -/
theorem fireOnsetFrees : Obligations.FireOnsetFrees := by
  intro s hrun hdue htogether
  have hexec : exec .fireOnset s = .next (s.egressPortals.foldl State.recomputeMode s.fireNoted).drive :=
    done_of_eq ((timed_due hdue).trans (State.fireStarts_running hrun))
  obtain ⟨hstore, hroster, hcars, hothers⟩ := foldl_recomputeMode_egress (l := s.egressPortals) (s := s.fireNoted)
    (by simp) (fun p hp => by rw [State.fireNoted_portalRec]; exact State.mem_egressPortals.mp hp)
  have hframe := foldl_recomputeMode_frame s.egressPortals s.fireNoted
  have hstill := (Quiet.foldl Quiet.recomputeMode s.egressPortals s.fireNoted).toKeeps.running
    (s.fireNoted_running.trans hrun)
  have hflags := FlagsRise.foldl FlagsRise.recomputeMode s.egressPortals s.fireNoted
  have hleaf : ∀ q : Fin 16, (s.egressPortals.foldl State.recomputeMode s.fireNoted).portals[q].mode = .free →
      (s.egressPortals.foldl State.recomputeMode s.fireNoted).portals[q].leaf = .free :=
    foldl_invariant (P := fun t => ∀ q : Fin 16, t.portals[q].mode = .free → t.portals[q].leaf = .free)
      (fun t p ht => State.recomputeMode_leaf_free ht p) _ (by simpa using htogether)
  have hfreed (p : Fin 16) (hp : (s.portalRec p).egress = true) :
      (s.egressPortals.foldl State.recomputeMode s.fireNoted).portals[p].mode = .free :=
    foldl_frees Quiet.recomputeMode _ (fun _ => .inr ⟨p, State.mem_egressPortals.mpr hp, fun t => State.recomputeMode_freed⟩)
      (State.egressUnderFire_iff.mpr ⟨by simp, by rwa [State.fireNoted_portalRec]⟩)
  generalize s.egressPortals.foldl State.recomputeMode s.fireNoted = t at *
  simp only [State.fireNoted_frame, State.fireNoted_portalRec] at hstore hroster hcars hothers hframe
  obtain ⟨hpending, hpower, hpins, hclock, hticket, hfire, hcount⟩ := hframe
  have hrec (p : Fin 16) : t.portalRec p = s.portalRec p := by rw [State.portalRec, hstore, ← State.portalRec]
  obtain ⟨hofire, hffire⟩ := s.fireNoted_flags
  refine ⟨_, hexec, ?_, ?_, ?_, ?_, fun p hp => ?_, fun p hp => ?_, ?_⟩
  · rw [State.drive_fire, hfire]
  · rw [State.drive_fire, hfire]
  · rw [State.drive_office]
    exact (hflags 7).1 hofire
  · rw [State.drive_field]
    exact (hflags 7).2 hffire
  · refine ⟨hfreed p hp, hleaf p (hfreed p hp), ?_⟩
    rw [State.drive_strike hstill, if_pos (.inr (hleaf p (hfreed p hp))), hrec]
  · rw [State.drive_portals, hothers p hp]
  · apply State.eq_of_fields <;> simp [*]

end Sys2Proof.Machine

/-! PROOFS. Moves: one commit, the budget that a creation spends, how passengers leave a car, and how entries leave the
Referral Queue (R23, R67 to R70, R76, R123, R124, R127, R144, R145). -/

namespace Sys2Proof.Machine

/-! ## A commit (R67 to R70, R76) -/

section
variable {s : State} {m : Move}

theorem State.commit_of_fire (h : s.fire.active = true) : s.commit m = s := if_pos h

theorem State.commit_of_entry (hclear : s.fire.active = false) (hentry : (s.entryOf m.id).isSome = true) :
    s.commit m =
      if m.arrival = false ∧ m.toZone = 0 then s.removeEntry m.id else s.modEntry m.id (RosterEntry.moveTo m.toZone) := by
  obtain ⟨e, he⟩ := Option.isSome_iff_exists.mp hentry
  simp [State.commit, State.applyMove, hclear, he]

/-- A creation spends one unit of a present budget, and marks the credential once. -/
theorem State.createEntry_spends {id zone b : Nat} {e : CredEntry} (he : s.store.mirror.credentials.find? id = some e)
    (hb : e.record.budget = some b) :
    (s.createEntry id zone).store =
      Store.mark
        { s.store with
          mirror := { s.store.mirror with
            credentials := s.store.mirror.credentials.put id { e with record := { e.record with budget := some (b - 1) } } } }
        id := by
  unfold State.createEntry State.spendBudget
  dsimp only
  rw [he]
  dsimp only
  rw [hb]

/-- A creation for a credential with no budget spends nothing. -/
theorem State.createEntry_unspent {id zone : Nat} {e : CredEntry} (he : s.store.mirror.credentials.find? id = some e)
    (hb : e.record.budget = none) : (s.createEntry id zone).store = s.store := by
  unfold State.createEntry State.spendBudget
  dsimp only
  rw [he]
  dsimp only
  rw [hb]

end

/-- Settles O42: the commit by its fire state, its holder's entry and its zone, and the creation by its budget. -/
theorem commitMovesHolder : Obligations.CommitMovesHolder := by
  refine ⟨fun s m => ⟨fun h => State.commit_of_fire h, fun _ => State.commit_of_no_entry,
    fun h => State.commit_arrival_roster h, fun hclear hentry harrival hzone => ?_, fun hclear hentry hmove => ?_⟩,
    fun s id zone e he => ⟨fun b hb => ?_, fun hb => State.createEntry_unspent he hb⟩⟩
  · rw [State.commit_of_entry hclear hentry, if_pos ⟨harrival, hzone⟩, State.removeEntry_roster]
  · rw [State.commit_of_entry hclear hentry, if_neg]
    · rfl
    · rintro ⟨harrival, hzone⟩
      rw [harrival] at hmove
      exact hmove.elim Bool.noConfusion (fun h => h hzone)
  · rw [State.createEntry_spends he hb, (Store.mark_frame _ id).2.2.1]
    refine ⟨Table.find?_put_same _ id _, ?_⟩
    unfold Store.mark
    simp only [List.contains_iff_mem]
    split <;> rfl

/-! ## Entries of a run of holders changed (R124, R127) -/

/-- Entries of a run of holders take a change that leaves ids alone and that a second one does not add to. -/
theorem foldl_modEntry {α : Type} (key : α → Nat) {f : RosterEntry → RosterEntry} (hid : ∀ e, (f e).id = e.id)
    (htwice : ∀ e, f (f e) = f e) (l : List α) (s : State) :
    l.foldl (fun t a => t.modEntry (key a) f) s =
      { s with roster := s.roster.map (fun e => if l.any (fun a => key a == e.id) then f e else e) } := by
  induction l generalizing s with
  | nil => simp
  | cons a l ih =>
    rw [List.foldl_cons, ih]
    simp only [State.modEntry, List.map_map]
    congr 1
    refine List.map_congr_left fun e _ => ?_
    by_cases ha : e.id = key a
    · by_cases hl : l.any (fun a => key a == e.id)
      · simp [ha, hid, htwice]
      · simp [ha, hid, htwice]
    · have ha' : key a ≠ e.id := Ne.symm ha
      simp [ha, ha']

/-- What alighting at a zone does to the passenger's entry: the car field clears, and under a CLEAR fire state the zone
is taken. -/
def RosterEntry.alighted (frozen : Bool) (zone : Nat) (e : RosterEntry) : RosterEntry :=
  if frozen then { e with car := none } else { e with car := none, zone := zone, muster := false }

theorem alight_eq (zone : Nat) (s : State) (q : Passenger) :
    alight zone s q = s.modEntry q.id (RosterEntry.alighted s.fire.active zone) := by
  have hfire : (s.releaseFromCar q.id).fire = s.fire := rfl
  unfold alight
  dsimp only
  rw [hfire]
  cases s.fire.active with
  | true => rfl
  | false =>
    simp only [Bool.false_eq_true, if_false, State.releaseFromCar, State.modEntry, List.map_map]
    congr 1
    refine List.map_congr_left fun e _ => ?_
    by_cases he : e.id = q.id <;> simp [he, RosterEntry.moveTo, RosterEntry.alighted]

/-- Passengers that alight one after another. -/
theorem foldl_alight (zone : Nat) (l : List Passenger) (s : State) :
    l.foldl (alight zone) s =
      { s with
        roster := s.roster.map (fun e =>
          if l.any (fun q => q.id == e.id) then e.alighted s.fire.active zone else e) } := by
  have hfold : l.foldl (alight zone) s =
      l.foldl (fun t q => t.modEntry q.id (RosterEntry.alighted s.fire.active zone)) s := by
    suffices h : ∀ (l : List Passenger) (t : State), t.fire = s.fire →
        l.foldl (alight zone) t = l.foldl (fun t q => t.modEntry q.id (RosterEntry.alighted s.fire.active zone)) t from
      h l s rfl
    intro l
    induction l with
    | nil => exact fun _ _ => rfl
    | cons q l ih =>
      intro t ht
      rw [List.foldl_cons, List.foldl_cons, alight_eq, ht]
      exact ih _ ht
  have hid (e : RosterEntry) : (e.alighted s.fire.active zone).id = e.id := by
    unfold RosterEntry.alighted
    split <;> rfl
  have htwice (e : RosterEntry) :
      (e.alighted s.fire.active zone).alighted s.fire.active zone = e.alighted s.fire.active zone := by
    unfold RosterEntry.alighted
    split <;> rfl
  rw [hfold, foldl_modEntry (fun q : Passenger => q.id) hid htwice]

/-! ## CAR_ARRIVAL and SESSION_TIMER_EXPIRY (R123, R124, R127) -/

section
variable {s : State} {c : Fin 4} {n : Nat}

/-- An arrival: the roster lets the alighting passengers off, and the car keeps the others. -/
theorem State.arrive_eq :
    s.arrive c n =
      State.modCar
        { s with
          roster := s.roster.map (fun e =>
            if s.cars[c].passengers.any (fun q => q.landings.getLsbD n && q.id == e.id) then
              e.alighted s.fire.active ((s.carRec c).zones.getD n 0)
            else e) }
        c
        (fun u => Car.settleSession
          { u with landing := some n, passengers := s.cars[c].passengers.filter (fun q => !q.landings.getLsbD n) }) := by
  unfold State.arrive
  dsimp only
  rw [foldl_alight]
  simp only [List.any_filter]

theorem carArrival_of_outside (h : (s.carRec c).landings ≤ n) : carArrival c.val n s = (s, Reply.refusal .badValue) := by
  simp only [carArrival, car?_val]
  exact if_neg (by omega)

theorem carArrival_arrives (h : n < (s.carRec c).landings) : ∃ r, carArrival c.val n s = (s.arrive c n, r) := by
  simp only [carArrival, car?_val]
  exact ⟨_, if_pos h⟩

theorem Car.settleSession_fields (u : Car) :
    u.settleSession.passengers = u.passengers ∧ u.settleSession.landing = u.landing
      ∧ (u.passengers = [] → u.settleSession.session = .closed ∧ u.settleSession.timer = none)
      ∧ (u.passengers ≠ [] → u.settleSession.session = u.session ∧ u.settleSession.timer = u.timer) := by
  unfold Car.settleSession
  cases hp : u.passengers with
  | nil => simp
  | cons q l => simp [hp]

end

/-- Settles O45: the passengers that leave are let off by the roster, and the car settles with the others. -/
theorem passengersLeave : Obligations.PassengersLeave := by
  refine ⟨fun s c n hack => ⟨fun hlanding => ?_, fun hlanding => ?_⟩, fun s c hrun htimer => ?_⟩
  · obtain ⟨r, hr⟩ := carArrival_arrives (s := s.endFrame .field) hlanding
    have hexec : exec (.carArrival c.val n) s = .next (((s.endFrame .field).arrive c n).holdReply .field r).drive :=
      done_request hack hr
    obtain ⟨hp, hl, hnone, hsome⟩ := Car.settleSession_fields
      { s.cars[c] with landing := some n, passengers := s.cars[c].passengers.filter (fun q => !q.landings.getLsbD n) }
    have hself : ((s.endFrame .field).arrive c n).cars[c] = Car.settleSession
        { s.cars[c] with
          landing := some n, passengers := s.cars[c].passengers.filter (fun q => !q.landings.getLsbD n) } := by
      rw [State.arrive_eq, State.modCar_self]
      rfl
    refine ⟨_, hexec, ?_⟩
    simp only [State.drive_cars, State.drive_roster, State.holdReply_cars, State.holdReply_roster, State.drive_field]
    rw [hself, hp]
    refine ⟨hl, rfl, hnone, hsome, fun d hd => ?_, ?_, ?_⟩
    · rw [State.arrive_eq, State.modCar_other _ _ _ _ hd.symm]
      rfl
    · rw [State.arrive_eq, State.modCar_roster]
      refine List.map_congr_left fun e _ => if_congr Iff.rfl ?_ rfl
      show e.alighted s.fire.active _ = _
      cases s.fire.active <;> rfl
    · rw [State.arrive_eq]
      rfl
  · exact done_request_field_reads hack (carArrival_of_outside (s := s.endFrame .field) hlanding)
  · have hdue : s.sessionDue c = true := by
      rw [State.sessionDue, hrun, htimer]
      exact State.due_now s
    have hexec : exec (.sessionTimerExpiry c) s = .next (s.expireSession c).drive :=
      done_of_eq (timed_due (due := (·.sessionDue c)) hdue)
    obtain ⟨u, hu, huroster⟩ : ∃ u : State, s.expireSession c =
          (u.modCar c Car.clear).note .carTimeout (some c.val) (some s.cars[c].passengers.length)
        ∧ u = { s with
            roster := s.roster.map (fun e =>
              if s.cars[c].passengers.any (fun q => q.id == e.id) then { e with car := none } else e) } :=
      ⟨_, rfl, foldl_modEntry (fun q : Passenger => q.id) (f := fun e => { e with car := none }) (fun _ => rfl) (fun _ => rfl)
        s.cars[c].passengers s⟩
    refine ⟨_, hexec, ?_, fun d hd => ?_, ?_, ?_, ?_⟩
    · rw [State.drive_cars, hu, State.note, State.append_cars, State.modCar_self, huroster]
      rfl
    · rw [State.drive_cars, hu, State.note, State.append_cars, State.modCar_other _ _ _ _ hd.symm, huroster]
    · rw [State.drive_roster, hu, State.note, State.append_roster, State.modCar_roster, huroster]
    · rw [State.drive_journal, hu, State.note, State.append_getLast?, huroster]
      rfl
    · apply State.eq_of_fields <;> simp [hu, State.note, huroster]

/-! ## WITHDRAW and TAKE_OUTCOME (R144, R145) -/

section
variable {s : State} {ticket : Nat}

theorem withdraw_of_none (h : s.referral? ticket = none) (hticket : ticket ≠ 0) :
    withdraw ticket s = (s, Reply.refusal .unknownTicket) := by
  unfold withdraw
  rw [if_neg hticket, h]

theorem takeOutcome_of_none (h : s.referral? ticket = none) (hticket : ticket ≠ 0) :
    takeOutcome ticket s = (s, Reply.refusal .unknownTicket) := by
  unfold takeOutcome
  rw [if_neg hticket, h]

variable {e : Referral}

/-- The entry that a ticket finds holds it. -/
theorem State.referral?_ticket (h : s.referral? ticket = some e) : e.ticket = ticket := by
  simpa using List.find?_some h

theorem withdraw_of_pending (h : s.referral? ticket = some e) (hticket : ticket ≠ 0) (hstate : e.state = .pending) :
    withdraw ticket s =
      ((s.removeReferral ticket).append ((s.removeReferral ticket).outcomeRecord e .withdrawn none none),
        ⟨.ok, byte1 ticket ++ [23, 0xFF, 0xFF]⟩) := by
  unfold withdraw
  rw [if_neg hticket, h]
  dsimp only
  rw [hstate]
  rfl

theorem takeOutcome_of_pending (h : s.referral? ticket = some e) (hticket : ticket ≠ 0) (hstate : e.state = .pending) :
    takeOutcome ticket s = (s, Reply.refusal .notFound) := by
  unfold takeOutcome State.takeIfResolved
  rw [if_neg hticket, h]
  dsimp only
  rw [hstate]

theorem takeOutcome_of_resolved {o : EntryOutcome} (h : s.referral? ticket = some e) (hticket : ticket ≠ 0)
    (hstate : e.state = .resolved o) :
    takeOutcome ticket s =
      (s.removeReferral ticket,
        Reply.done (byte1 ticket ++ byte1 e.reader ++ byte4 e.id ++ byte1 o.code ++ byte1 (o.reason.getD .none).code
          ++ byte1 (o.count.getD 0) ++ byte1 (s.removeReferral ticket).resolvedCount)) := by
  unfold takeOutcome State.takeIfResolved
  rw [if_neg hticket, h]
  dsimp only
  rw [hstate, ← State.referral?_ticket h]
  rfl

end

/-- The state after an append to a port's change is the change after the append, as FIELD requests need it. -/
theorem State.append_endFrame_field (s : State) (r : Record) :
    (s.endFrame .field).append r = (s.append r).endFrame .field := by
  by_cases hroom : s.journal.length < 512
  · rw [State.append_of_room r hroom, State.append_of_room r (by exact hroom)]
    rfl
  · rw [State.append_of_full r (s := s) (by omega), State.append_of_full r (by simpa using hroom)]
    rfl

/-- Settles O39: a PENDING entry is withdrawn and cannot be taken, a RESOLVED one is taken, and no ticket finds none. -/
theorem entriesLeave : Obligations.EntriesLeave := by
  intro s ticket hack hticket
  refine ⟨fun e he hstate => ⟨?_, ?_⟩, fun e o he hstate => ?_, fun hnone => ⟨?_, ?_⟩⟩
  · have hexec : exec (.withdraw ticket) s = .next _ :=
      done_request hack (withdraw_of_pending (s := s.endFrame .field) he hticket hstate)
    rw [hexec]
    have happend := State.append_endFrame_field (s.removeReferral ticket)
      ((s.removeReferral ticket).outcomeRecord e .withdrawn none none)
    refine congrArg (fun u => Host.Outcome.next (State.drive (State.holdReply u .field _))) (Eq.trans ?_ happend) |>.trans ?_
    · rfl
    · rfl
  · exact done_request_field_reads hack (takeOutcome_of_pending (s := s.endFrame .field) he hticket hstate)
  · have hexec : exec (.takeOutcome ticket) s = .next _ :=
      done_request hack (takeOutcome_of_resolved (s := s.endFrame .field) he hticket hstate)
    refine ⟨_, hexec, rfl, ?_⟩
    cases o <;> rfl
  · exact done_request_field_reads hack (takeOutcome_of_none (s := s.endFrame .field) hnone hticket)
  · exact done_request_field_reads hack (withdraw_of_none (s := s.endFrame .field) hnone hticket)

end Sys2Proof.Machine

/-! PROOFS. Checks: how the checks of a portal's readers end, and the presentations that the operands, the reader, the
mode or an unknown id decide (R41, R45 to R58). -/

namespace Sys2Proof.Machine

/-! ## The reader that is presented at (R41) -/

section
variable {s : State} {id : Nat} {p : Fin 16}

theorem present_entry (hid : idInRange id = true) (p : Fin 16) : present (2 * p.val) id s = s.presentEntry p id := by
  have hhalf : 2 * p.val / 2 = p.val := by omega
  have heven : 2 * p.val % 2 = 0 := by omega
  simp [present, hid, hhalf, heven]

theorem present_exit (hid : idInRange id = true) (p : Fin 16) : present (2 * p.val + 1) id s = s.presentExit p id := by
  have hhalf : (2 * p.val + 1) / 2 = p.val := by omega
  have hodd : (2 * p.val + 1) % 2 = 1 := by omega
  simp [present, hid, hhalf, hodd]

theorem present_car (hid : idInRange id = true) (c : Fin 4) : present (32 + c.val) id s = s.presentCar c id := by
  have hout : portal? ((32 + c.val) / 2) = none := portal?_of_outside (by omega)
  simp [present, hid, hout, car?_val]

/-- A reader or an id outside its range is refused. -/
theorem present_of_outside {reader : Nat} (h : 35 < reader ∨ id = 0 ∨ 4294967294 < id) :
    present reader id s = (s, Reply.refusal .badValue) := by
  by_cases hid : idInRange id = true
  · have hrange := idInRange_iff.mp hid
    have hreader : 35 < reader := by omega
    have hportal : portal? (reader / 2) = none := portal?_of_outside (by omega)
    have hcar : car? (reader - 32) = none := car?_of_outside (by omega)
    simp [present, hid, hportal, hcar]
  · simp [present, hid]

/-! ## The first checks of a portal's readers (R48 to R50) -/

theorem State.readerPending_none {reader : Nat} :
    s.readerPending reader none = false ↔ ∀ e ∈ s.referrals, e.state = .pending → e.reader ≠ reader := by
  simp [State.readerPending, Referral.isPending_iff]

theorem State.checkReader_of_disabled {reader : Nat} {x : Option Nat} (h : (s.portalRec p).enabled = false) :
    s.checkReader p reader x = some .portalDisabled := by
  simp [State.checkReader, h]

theorem State.checkReader_of_free {reader : Nat} (h : (s.portalRec p).enabled = true)
    (hpending : ∀ e ∈ s.referrals, e.state = .pending → e.reader ≠ reader) : s.checkReader p reader none = none := by
  simp [State.checkReader, h, State.readerPending_none.mpr hpending]

/-- What the mode and the credential's record decide once the reader is free to judge: `known` judges a known credential
in a NORMAL or REFERRAL mode. -/
def State.modeChecks (s : State) (p : Fin 16) (id : Nat) (known : CredRec → Checked) : Checked :=
  match s.portals[p].mode with
  | .free => .free
  | .locked => .deny .portalLocked
  | .normal | .referral =>
    match s.credRec id with
    | none => .deny .unknown
    | some r => known r

theorem State.entryChecks_of_denied {x : Option Nat} {r : Reason} (h : s.checkReader p (entryReader p) x = some r) :
    s.entryChecks p id x = .deny r := by
  rw [State.entryChecks, h]

theorem State.entryChecks_of_reader {x : Option Nat} (h : s.checkReader p (entryReader p) x = none) :
    s.entryChecks p id x =
      s.modeChecks p id (fun r =>
        match firstSome [checkSuspended r, s.checkExpiry r, s.checkBudget id r, s.checkTenancy r, s.checkWindow r,
            s.checkZone p r] with
        | some reason => .deny reason
        | none => s.checkPassage p id (s.portalRec p).outer true (s.entryMove p id x)) := by
  rw [State.entryChecks, h]
  rfl

theorem State.exitChecks_of_denied {r : Reason} (h : s.checkReader p (exitReader p) none = some r) :
    s.exitChecks p id = .deny r := by
  rw [State.exitChecks, h]

theorem State.exitChecks_of_reader (h : s.checkReader p (exitReader p) none = none) :
    s.exitChecks p id =
      s.modeChecks p id (fun _ => s.checkPassage p id (s.portalRec p).inner false (s.exitMove p id)) := by
  rw [State.exitChecks, h]
  rfl

section
variable {known : CredRec → Checked}

theorem State.modeChecks_of_free (h : s.portals[p].mode = .free) : s.modeChecks p id known = .free := by
  rw [State.modeChecks, h]

theorem State.modeChecks_of_locked (h : s.portals[p].mode = .locked) : s.modeChecks p id known = .deny .portalLocked := by
  rw [State.modeChecks, h]

theorem State.modeChecks_of_unknown (h : s.portals[p].mode = .normal ∨ s.portals[p].mode = .referral)
    (hid : s.credRec id = none) : s.modeChecks p id known = .deny .unknown := by
  rcases h with h | h <;> rw [State.modeChecks, h, hid]

theorem State.modeChecks_of_known {r : CredRec} (h : s.portals[p].mode = .normal ∨ s.portals[p].mode = .referral)
    (hid : s.credRec id = some r) : s.modeChecks p id known = known r := by
  rcases h with h | h <;> rw [State.modeChecks, h, hid]

end

/-! ## Presentations that hand nothing over (R43, R44) -/

/-- The event of a presentation that is answered FREE or DENY: its DECISION record and its reply. -/
theorem exec_present_plain {reader : Nat} {d : Decision} {r : Reason} (hack : s.acknowledges .field = true)
    (h : present reader id (s.endFrame .field) = (s.endFrame .field).answerPlain reader id d r) :
    exec (.present reader id) s =
      .next (State.drive ((s.append
        { s.blankRecord .decision with
          subject := some reader, id := some id, outcome := some (.decision d), reason := some r }).modPort
        .field (fun q => q.answered ⟨.ok, byte1 d.code ++ byte1 r.code ++ byte1 0 ++ bytesOfSet 0⟩))) := by
  have hexec : exec (.present reader id) s = .next _ := done_request hack h
  have hnoted : (s.endFrame .field).noteDecision reader id d r none none =
      (s.append
        { s.blankRecord .decision with
          subject := some reader, id := some id, outcome := some (.decision d), reason := some r }).endFrame .field :=
    State.append_endFrame_field s _
  rw [hexec, hnoted]
  rfl

/-- A presentation at a reader of a portal that its checks deny. -/
theorem present_denied {reader : Nat} {r : Reason} (hid : idInRange id = true)
    (hreader : reader = 2 * p.val ∨ reader = 2 * p.val + 1)
    (hentry : reader = entryReader p → s.entryChecks p id none = .deny r)
    (hexit : reader = exitReader p → s.exitChecks p id = .deny r) :
    present reader id s = s.answerPlain reader id .deny r := by
  rcases hreader with rfl | rfl
  · rw [present_entry hid, State.presentEntry, hentry rfl]
    rfl
  · rw [present_exit hid, State.presentExit, hexit rfl]
    rfl

/-- A presentation at a reader of a portal that its checks find FREE. -/
theorem present_free {reader : Nat} (hid : idInRange id = true)
    (hreader : reader = 2 * p.val ∨ reader = 2 * p.val + 1)
    (hentry : reader = entryReader p → s.entryChecks p id none = .free)
    (hexit : reader = exitReader p → s.exitChecks p id = .free) :
    present reader id s = s.answerPlain reader id .free .none := by
  rcases hreader with rfl | rfl
  · rw [present_entry hid, State.presentEntry, hentry rfl]
    rfl
  · rw [present_exit hid, State.presentExit, hexit rfl]
    rfl

end

/-- Settles O33: the reader, the mode and the credential's record are read in turn, and the first that decides answers. -/
theorem readerAndModeDecide : Obligations.ReaderAndModeDecide := by
  refine ⟨fun s reader id hack h => done_request_field_reads hack (present_of_outside h), ?_⟩
  intro s p reader id hack hlow hhigh hreader
  have hid : idInRange id = true := idInRange_iff.mpr ⟨hlow, hhigh⟩
  refine ⟨fun hdisabled => ?_, fun henabled hpending => ?_⟩
  · refine exec_present_plain hack (present_denied hid hreader (fun _ => ?_) (fun _ => ?_))
    · exact State.entryChecks_of_denied (State.checkReader_of_disabled (s := s.endFrame .field) hdisabled)
    · exact State.exitChecks_of_denied (State.checkReader_of_disabled (s := s.endFrame .field) hdisabled)
  have hopen : (s.endFrame .field).checkReader p reader none = none :=
    State.checkReader_of_free (s := s.endFrame .field) henabled hpending
  refine ⟨fun hmode => ?_, fun hmode => ?_, fun hmode hunknown => ?_⟩
  · refine exec_present_plain hack (present_free hid hreader (fun h => ?_) (fun h => ?_))
    · rw [State.entryChecks_of_reader (h ▸ hopen), State.modeChecks_of_free (s := s.endFrame .field) hmode]
    · rw [State.exitChecks_of_reader (h ▸ hopen), State.modeChecks_of_free (s := s.endFrame .field) hmode]
  · refine exec_present_plain hack (present_denied hid hreader (fun h => ?_) (fun h => ?_))
    · rw [State.entryChecks_of_reader (h ▸ hopen), State.modeChecks_of_locked (s := s.endFrame .field) hmode]
    · rw [State.exitChecks_of_reader (h ▸ hopen), State.modeChecks_of_locked (s := s.endFrame .field) hmode]
  · have hrec : (s.endFrame .field).credRec id = none := by
      simpa [State.credRec] using hunknown
    refine exec_present_plain hack (present_denied hid hreader (fun h => ?_) (fun h => ?_))
    · rw [State.entryChecks_of_reader (h ▸ hopen), State.modeChecks_of_unknown (s := s.endFrame .field) hmode hrec]
    · rw [State.exitChecks_of_reader (h ▸ hopen), State.modeChecks_of_unknown (s := s.endFrame .field) hmode hrec]

/-! ## The passage of a holder (R52 to R55) -/

section
variable {s : State} {p : Fin 16} {id zone : Nat} {limited : Bool} {m : Move}

theorem State.hasMoveElsewhere_eq_false (h : ∀ q : Fin 16, q ≠ p → ∀ x ∈ s.portals[q].moves, x.id ≠ id) :
    s.hasMoveElsewhere p id = false := by
  rw [State.hasMoveElsewhere, List.any_eq_false]
  intro q _ hq
  rw [Bool.and_eq_true, bne_iff_ne, State.hasMoveAt, List.any_eq_true] at hq
  obtain ⟨hne, x, hx, hxid⟩ := hq
  exact h q hne x hx (by simpa using hxid)

theorem State.inAnyCar_eq_false (h : ∀ c : Fin 4, ∀ x ∈ s.cars[c].passengers, x.id ≠ id) : s.inAnyCar id = false := by
  rw [State.inAnyCar, List.any_eq_false]
  intro c _ hc
  rw [Car.carries, List.any_eq_true] at hc
  obtain ⟨x, hx, hxid⟩ := hc
  exact h c x hx (by simpa using hxid)

theorem State.hasMoveAt_iff : s.hasMoveAt p id = true ↔ ∃ x ∈ s.portals[p].moves, x.id = id := by
  simp [State.hasMoveAt]

/-- A holder with no commitment elsewhere and a move here is regranted. -/
theorem State.checkPassage_regrant (helse : s.hasMoveElsewhere p id = false) (hcar : s.inAnyCar id = false)
    (hmove : s.hasMoveAt p id = true) : s.checkPassage p id zone limited m = .regrant := by
  simp [State.checkPassage, helse, hcar, hmove]

/-- A holder with no commitment whom the passback rule denies. -/
theorem State.checkPassage_passback (helse : s.hasMoveElsewhere p id = false) (hcar : s.inAnyCar id = false)
    (hmove : s.hasMoveAt p id = false)
    (h : passbackOutcome (s.passbackRule id (s.portalRec p).passback) (s.rosterZone id != zone) = none) :
    s.checkPassage p id zone limited m = .deny .passback := by
  simp [State.checkPassage, helse, hcar, hmove, h]

/-- A holder with no commitment whom no check denies passes. -/
theorem State.checkPassage_pass {corrected : Bool} (helse : s.hasMoveElsewhere p id = false) (hcar : s.inAnyCar id = false)
    (hmove : s.hasMoveAt p id = false)
    (h : passbackOutcome (s.passbackRule id (s.portalRec p).passback) (s.rosterZone id != zone) = some corrected)
    (hlimit : limited = true → s.checkFull id = none) (hcycle : s.checkCycle p = none) (hidle : s.busyFor p = none) :
    s.checkPassage p id zone limited m = .pass m corrected := by
  have hlast : firstSome [if limited then s.checkFull id else none, s.checkCycle p, s.checkInterlock p] = none := by
    have hfirst : (if limited then s.checkFull id else none) = none := by
      split
      case isTrue h => exact hlimit h
      case isFalse => rfl
    rw [hfirst, hcycle, State.checkInterlock, hidle]
    rfl
  simp [State.checkPassage, helse, hcar, hmove, h, hlast]

theorem State.checkCycle_of_room (hroom : s.portals[p].grants < 15) (hforced : s.portals[p].leaf ≠ .forced) :
    s.checkCycle p = none := by
  rw [State.checkCycle, if_neg]
  simp only [Bool.or_eq_true, decide_eq_true_eq, not_or]
  exact ⟨by show ¬15 ≤ s.portals[p].grants; omega, hforced⟩

end

/-- Settles O34: each check of the sequence is passed for the reason its premise gives. -/
theorem staffEntryPasses : Obligations.StaffEntryPasses := by
  intro s p id profile r zones henabled hpending hmode hrec hkind hvalid hprofile hverdict hzones hinner hmoves hcars
    hpassback hgroup hgrants hforced hlimit
  have hopen : s.checkReader p (entryReader p) none = none := State.checkReader_of_free henabled hpending
  have hsuspended : checkSuspended r = none := by simp [checkSuspended, hvalid]
  have hexpiry : s.checkExpiry r = none := by simp [State.checkExpiry, hkind]
  have hbudget : s.checkBudget id r = none := by simp [State.checkBudget, hkind]
  have htenancy : s.checkTenancy r = none := by simp [State.checkTenancy, hkind]
  have hwindow : s.checkWindow r = none := by
    have huse : s.holderProfile r = profile := by simp [State.holderProfile, hkind, hprofile]
    simp [State.checkWindow, huse, hverdict]
  have hzone : s.checkZone p r = none := by
    have huse : s.allowedZones r = zones := by simp [State.allowedZones, hkind, hzones]
    rw [State.checkZone, huse, if_pos hinner]
  have hfull : s.checkFull id = none := by
    rw [State.checkFull, if_neg]
    simp only [Bool.and_eq_true, not_and, State.onSite]
    intro _ h
    have hreached := of_decide_eq_true h
    omega
  have hrule : passbackOutcome (s.passbackRule id (s.portalRec p).passback) (s.rosterZone id != (s.portalRec p).outer) =
      some false := by
    rw [hpassback]
    rfl
  have hhere : s.hasMoveAt p id = false :=
    Bool.eq_false_iff.mpr fun h => by
      obtain ⟨x, hx, hxid⟩ := State.hasMoveAt_iff.mp h
      exact hmoves p x hx hxid
  refine ⟨?_, ?_⟩
  · rw [State.entryChecks_of_reader hopen, State.modeChecks_of_known (.inl hmode) hrec, hsuspended, hexpiry, hbudget,
      htenancy, hwindow, hzone]
    exact State.checkPassage_pass (State.hasMoveElsewhere_eq_false fun q _ => hmoves q) (State.inAnyCar_eq_false hcars)
      hhere hrule (fun _ => hfull) (State.checkCycle_of_room hgrants hforced) (State.busyFor_of_no_group hgroup)
  · rw [State.referralOf, hrec]
    exact if_pos hkind

/-- The exit sequence of a known holder with no commitment elsewhere (R58). -/
theorem State.exitChecks_of_holder {s : State} {p : Fin 16} {id : Nat} {r : CredRec} (henabled : (s.portalRec p).enabled = true)
    (hpending : ∀ e ∈ s.referrals, e.state = .pending → e.reader ≠ 2 * p.val + 1)
    (hmode : s.portals[p].mode = .normal ∨ s.portals[p].mode = .referral) (hrec : s.credRec id = some r) :
    s.exitChecks p id = s.checkPassage p id (s.portalRec p).inner false (s.exitMove p id) := by
  rw [State.exitChecks_of_reader (State.checkReader_of_free henabled hpending), State.modeChecks_of_known hmode hrec]

end Sys2Proof.Machine

/-! PROOFS. Grants: how a portal takes a grant or a regrant, and the presentations that hand one over or create a referral
(R52, R56 to R58, R64, R86, R136, R137). -/

namespace Sys2Proof.Machine

/-! ## The portal that takes a grant (R86, R87) -/

section
variable {s : State} {p : Fin 16} {m : Move}

theorem State.unlockPeriod_congr {t : State} (h : t.store = s.store) : t.unlockPeriod p = s.unlockPeriod p := by
  rw [State.unlockPeriod, State.unlockPeriod, State.portalRec, State.portalRec, h]

theorem State.grantMove_of_secure (h : s.portals[p].leaf = .secure) :
    s.grantMove p m =
      s.modPortal p (fun q => { q.release [m] with unlock := some (s.clock.tick + s.unlockPeriod p) }) := by
  rw [State.grantMove, h]
  exact s.modPortal_modPortal p _ _

theorem State.grantMove_of_released (h : s.portals[p].leaf = .released) :
    s.grantMove p m =
      s.modPortal p (fun q =>
        { q with
          grants := q.grants + 1, moves := q.moves ++ [m], unlock := some (s.clock.tick + s.unlockPeriod p) }) := by
  rw [State.grantMove, h]
  exact s.modPortal_modPortal p _ _

theorem State.grantMove_of_open (h : s.portals[p].leaf = .opened ∨ s.portals[p].leaf = .held) :
    s.grantMove p m = (s.commit m).modPortal p (fun q => { q with grants := q.grants + 1 }) := by
  rcases h with h | h
  · rw [State.grantMove, h]
    exact s.commit_modPortal p _ m
  · rw [State.grantMove, h]
    exact s.commit_modPortal p _ m

/-- What a grant of move `m` at portal `p` makes of the part, but for its records and its ports. -/
structure TakesGrant (s t : State) (p : Fin 16) (m : Move) : Prop where
  others : ∀ q : Fin 16, q ≠ p → t.portals[q] = s.portals[q]
  secure : s.portals[p].leaf = .secure →
    t.portals[p] =
        { s.portals[p] with
          leaf := .released, grants := 1, passages := 0, tailgate := true, moves := [m],
          unlock := some (s.clock.tick + s.unlockPeriod p) }
      ∧ t.roster = s.roster ∧ t.cars = s.cars ∧ t.store = s.store
  released : s.portals[p].leaf = .released →
    t.portals[p] =
        { s.portals[p] with
          grants := s.portals[p].grants + 1, moves := s.portals[p].moves ++ [m],
          unlock := some (s.clock.tick + s.unlockPeriod p) }
      ∧ t.roster = s.roster ∧ t.cars = s.cars ∧ t.store = s.store
  opened : s.portals[p].leaf = .opened ∨ s.portals[p].leaf = .held →
    t.portals[p] = { s.portals[p] with grants := s.portals[p].grants + 1 }
      ∧ t.roster = (s.commit m).roster ∧ t.cars = (s.commit m).cars ∧ t.store = (s.commit m).store

/-- A grant reaches the controller in a part with other records and ports. -/
theorem State.grantMove_takes (s : State) (j : List Record) (o f : PortState) (p : Fin 16) (m : Move) :
    TakesGrant s ((s.withLog j o f).grantMove p m) p m where
  others q hq := by rw [State.grantMove_other _ _ _ _ hq, State.withLog]
  secure h := by
    rw [State.grantMove_of_secure (s := s.withLog j o f) h, State.modPortal_self]
    exact ⟨rfl, rfl, rfl, rfl⟩
  released h := by
    rw [State.grantMove_of_released (s := s.withLog j o f) h, State.modPortal_self]
    exact ⟨rfl, rfl, rfl, rfl⟩
  opened h := by
    rw [State.grantMove_of_open (s := s.withLog j o f) h, State.modPortal_self, State.commit_withLog]
    exact ⟨by rw [State.withLog, (s.commit_frame m).2.2.2.2.1], rfl, rfl, rfl⟩

end

/-! ## Presentations that hand a grant over (R44, R57, R58) -/

section
variable {s : State} {p : Fin 16} {reader id : Nat} {m : Move} {r : Reason}

/-- A DECISION record in the part whose FIELD frame has ended is noted with other records and ports alone. -/
theorem State.noteDecision_withLog (s : State) (reader id : Nat) (d : Decision) (r : Reason) (count ticket : Option Nat) :
    ∃ j o, (s.endFrame .field).noteDecision reader id d r count ticket = s.withLog j o (s.endFrame .field).field :=
  ⟨_, _, State.append_eq (s.endFrame .field) _⟩

/-- The event of a presentation that is granted with a move. -/
theorem exec_present_grant (hack : s.acknowledges .field = true)
    (h : present reader id (s.endFrame .field) = (s.endFrame .field).answerGrant p reader id r m) :
    ∃ t, exec (.present reader id) s = .next t
      ∧ TakesGrant s t p m
      ∧ t = { s with
          portals := t.portals, roster := t.roster, cars := t.cars, store := t.store, journal := t.journal,
          office := t.office, field := t.field, outs := t.outs }
      ∧ t.field = s.field.answered (decisionReply .grant r 0 0)
      ∧ t.journal.getLast? =
          some { s.blankRecord .decision with
            subject := some reader, id := some id, outcome := some (.decision .grant), reason := some r,
            count := some (if s.portals[p].leaf = .secure then 1 else s.portals[p].grants + 1) }
      ∧ (s.portals[p].leaf = .secure ∨ s.portals[p].leaf = .released →
          t.outs.strike[p] = releaseLevel (s.portalRec p)) := by
  have hexec : exec (.present reader id) s = .next _ := done_request hack h
  have hlast : ((s.endFrame .field).noteDecision reader id .grant r (some ((s.endFrame .field).countAfterGrant p))
      none).journal.getLast? = some { s.blankRecord .decision with
            subject := some reader, id := some id, outcome := some (.decision .grant), reason := some r,
            count := some (if s.portals[p].leaf = .secure then 1 else s.portals[p].grants + 1) } :=
    State.append_getLast? _ _
  obtain ⟨j, o, hnoted⟩ := s.noteDecision_withLog reader id .grant r (some ((s.endFrame .field).countAfterGrant p)) none
  rw [hnoted] at hexec hlast
  have htakes := s.grantMove_takes j o (s.endFrame .field).field p m
  have hfield : ((s.withLog j o (s.endFrame .field).field).grantMove p m).field = (s.endFrame .field).field := by simp [State.withLog]
  have hjournal : ((s.withLog j o (s.endFrame .field).field).grantMove p m).journal = j := by simp [State.withLog]
  have hquiet := Quiet.grantMove (s.withLog j o (s.endFrame .field).field) p m
  refine ⟨_, hexec, ⟨htakes.others, htakes.secure, htakes.released, htakes.opened⟩, ?_, ?_, ?_, fun hleaf => ?_⟩
  · apply State.eq_of_fields <;> simp [State.withLog]
  · show ({ ((s.withLog j o (s.endFrame .field).field).grantMove p m).field with reply := _ } : PortState) = _
    rw [hfield]
    rfl
  · show ((s.withLog j o (s.endFrame .field).field).grantMove p m).journal.getLast? = _
    rw [hjournal]
    exact hlast
  · have hreleased : ((s.withLog j o (s.endFrame .field).field).grantMove p m).portals[p].leaf = .released := by
      rcases hleaf with hl | hl
      · rw [(htakes.secure hl).1]
      · rw [(htakes.released hl).1]
        exact hl
    have hbefore : s.running = true := State.running_of_acknowledges hack
    have hrun : ((s.withLog j o (s.endFrame .field).field).grantMove p m).running = true := hquiet.toKeeps.running hbefore
    rw [show s.portalRec p = _ from (hquiet.portalRec p).symm]
    exact State.drive_strike_released (s := State.holdReply _ .field _) (by rwa [State.holdReply_running]) hreleased

/-- The event of a presentation that is granted again, where the portal is RELEASED. -/
theorem exec_present_regrant (hack : s.acknowledges .field = true) (hleaf : s.portals[p].leaf = .released)
    (h : present reader id (s.endFrame .field) = (s.endFrame .field).answerRegrant p reader id) :
    ∃ t, exec (.present reader id) s = .next t
      ∧ t.portals[p] = { s.portals[p] with unlock := some (s.clock.tick + s.unlockPeriod p) }
      ∧ (∀ q : Fin 16, q ≠ p → t.portals[q] = s.portals[q])
      ∧ t.field = s.field.answered (decisionReply .grant .none 0 0)
      ∧ t.journal.getLast? =
          some { s.blankRecord .decision with
            subject := some reader, id := some id, outcome := some (.decision .grant), reason := some .none,
            count := some s.portals[p].grants }
      ∧ t = { s with
          portals := t.portals, journal := t.journal, office := t.office, field := t.field, outs := t.outs } := by
  have hexec : exec (.present reader id) s = .next _ := done_request hack h
  have hlast : ((s.endFrame .field).noteDecision reader id .grant .none (some (s.endFrame .field).portals[p].grants)
      none).journal.getLast? = some { s.blankRecord .decision with
            subject := some reader, id := some id, outcome := some (.decision .grant), reason := some .none,
            count := some s.portals[p].grants } :=
    State.append_getLast? _ _
  obtain ⟨j, o, hnoted⟩ := s.noteDecision_withLog reader id .grant .none (some (s.endFrame .field).portals[p].grants) none
  rw [hnoted] at hexec hlast
  have hregrant : (s.withLog j o (s.endFrame .field).field).regrant p =
      (s.withLog j o (s.endFrame .field).field).modPortal p
        (fun q => { q with unlock := some (s.clock.tick + s.unlockPeriod p) }) := if_pos hleaf
  rw [hregrant] at hexec
  refine ⟨_, hexec, ?_, fun q hq => ?_, rfl, hlast, rfl⟩
  · rw [State.drive_portals, State.holdReply_portals, State.modPortal_self]
    rfl
  · rw [State.drive_portals, State.holdReply_portals, State.modPortal_other _ _ _ _ hq.symm]
    rfl

/-- The reply of a grant. -/
theorem decisionReply_grant (corrected : Bool) :
    decisionReply .grant (grantReason corrected false) 0 0 = ⟨.ok, [1, if corrected then 1 else 0, 0, 0, 0]⟩ := by
  cases corrected <;> rfl

/-- A presentation at an entry reader that passes and is not referred is granted. -/
theorem present_entry_grant {corrected : Bool} (hid : idInRange id = true) (hpass : s.entryChecks p id none = .pass m corrected)
    (hrefer : s.referralOf p id = none) :
    present (2 * p.val) id s = s.answerGrant p (2 * p.val) id (grantReason corrected false) m := by
  rw [present_entry hid, State.presentEntry, hpass]
  dsimp only
  rw [State.concludeEntry, hrefer]
  rfl

/-- The move that a passage grants is the one it was asked about. -/
theorem State.checkPassage_move {zone : Nat} {limited corrected : Bool} {m' : Move}
    (hpass : s.checkPassage p id zone limited m = .pass m' corrected) : m' = m := by
  unfold State.checkPassage at hpass
  repeat' split at hpass
  all_goals cases hpass
  rfl

/-- An exit that passes is granted the move from the inner zone to the outer zone. -/
theorem State.exitChecks_move {corrected : Bool} (hpass : s.exitChecks p id = .pass m corrected) : m = s.exitMove p id := by
  cases hread : s.checkReader p (exitReader p) none with
  | some r =>
    rw [State.exitChecks_of_denied hread] at hpass
    exact nomatch hpass
  | none =>
    rw [State.exitChecks_of_reader hread] at hpass
    cases hmode : s.portals[p].mode with
    | free => exact nomatch (State.modeChecks_of_free hmode).symm.trans hpass
    | locked => exact nomatch (State.modeChecks_of_locked hmode).symm.trans hpass
    | normal | referral =>
      cases hrec : s.credRec id with
      | none => exact nomatch (State.modeChecks_of_unknown (by simp only [hmode]; decide) hrec).symm.trans hpass
      | some r => exact State.checkPassage_move ((State.modeChecks_of_known (by simp only [hmode]; decide) hrec).symm.trans hpass)

/-- A presentation at an exit reader that passes is granted. -/
theorem present_exit_grant {corrected : Bool} (hid : idInRange id = true) (hpass : s.exitChecks p id = .pass m corrected) :
    present (2 * p.val + 1) id s = s.answerGrant p (2 * p.val + 1) id (grantReason corrected false) m := by
  rw [present_exit hid, State.presentExit, hpass]
  rfl

end

/-- Settles O35: the presentation is granted, and the portal takes the grant by its leaf state. -/
theorem entryGrantActs : Obligations.EntryGrantActs := by
  intro s p id m corrected hack hlow hhigh hpass hrefer
  have hid : idInRange id = true := idInRange_iff.mpr ⟨hlow, hhigh⟩
  obtain ⟨t, hexec, htakes, hframe, hfield, _, hstrike⟩ :=
    exec_present_grant hack (present_entry_grant (s := s.endFrame .field) hid hpass hrefer)
  refine ⟨t, hexec, hframe, hfield.trans (congrArg _ (decisionReply_grant corrected)), htakes.others, fun h => ?_,
    fun h => ?_, htakes.opened⟩
  · obtain ⟨hportal, hroster, hcars, hstore⟩ := htakes.secure h
    exact ⟨hportal, hroster, hcars, hstore, hstrike (.inl h)⟩
  · obtain ⟨hportal, hroster, hcars, hstore⟩ := htakes.released h
    exact ⟨hportal, hroster, hcars, hstore, hstrike (.inr h)⟩

/-! ## Exits and regrants (R52, R58) -/

section
variable {s : State} {p : Fin 16} {id zone : Nat}

/-- A HARD rule that no muster mark softens denies a mismatch. -/
theorem State.passbackOutcome_hard (hrule : (s.portalRec p).passback = .hard) (hmuster : s.mustered id = false)
    (hzone : s.rosterZone id ≠ zone) :
    passbackOutcome (s.passbackRule id (s.portalRec p).passback) (s.rosterZone id != zone) = none := by
  rw [hrule, bne_iff_ne.mpr hzone]
  simp [State.passbackRule, hmuster, passbackOutcome]

/-- No rule, or a match, corrects nothing. -/
theorem State.passbackOutcome_match (h : (s.portalRec p).passback = .none ∨ s.rosterZone id = zone) :
    passbackOutcome (s.passbackRule id (s.portalRec p).passback) (s.rosterZone id != zone) = some false := by
  rcases h with h | h
  · rw [h]
    rfl
  · rw [h, bne_self_eq_false]
    cases s.passbackRule id (s.portalRec p).passback <;> rfl

/-- A SOFT rule, or a HARD one that a muster mark softens, corrects a mismatch. -/
theorem State.passbackOutcome_soft
    (h : (s.portalRec p).passback = .soft ∨ ((s.portalRec p).passback = .hard ∧ s.mustered id = true))
    (hzone : s.rosterZone id ≠ zone) :
    passbackOutcome (s.passbackRule id (s.portalRec p).passback) (s.rosterZone id != zone) = some true := by
  rw [bne_iff_ne.mpr hzone]
  rcases h with h | ⟨h, hmuster⟩
  · rw [h]
    rfl
  · simp [State.passbackRule, h, hmuster, passbackOutcome]

end

/-- Settles O36: the exit checks of a holder without a commitment elsewhere, the exit grant, and the regrant. -/
theorem exitsAndRegrants : Obligations.ExitsAndRegrants := by
  refine ⟨?checks, ?grant, ?regrant⟩
  case checks =>
    intro s p id r m henabled hpending hmode hrec helsewhere hcars hm
    have hexit := State.exitChecks_of_holder henabled hpending hmode hrec
    have helse := State.hasMoveElsewhere_eq_false helsewhere
    have hcar := State.inAnyCar_eq_false hcars
    rw [hexit, show s.exitMove p id = m from hm.symm]
    refine ⟨fun hmove => State.checkPassage_regrant helse hcar (State.hasMoveAt_iff.mpr hmove), fun hnone => ?_⟩
    have hhere : s.hasMoveAt p id = false := Bool.eq_false_iff.mpr fun h => by
      obtain ⟨x, hx, hxid⟩ := State.hasMoveAt_iff.mp h
      exact hnone x hx hxid
    refine ⟨fun hrule hmuster hzone =>
      State.checkPassage_passback helse hcar hhere (State.passbackOutcome_hard hrule hmuster hzone),
      fun hgrants hforced hidle => ?_⟩
    have hpass {corrected : Bool}
        (h : passbackOutcome (s.passbackRule id (s.portalRec p).passback) (s.rosterZone id != (s.portalRec p).inner) =
          some corrected) :
        s.checkPassage p id (s.portalRec p).inner false m = .pass m corrected :=
      State.checkPassage_pass helse hcar hhere h (fun h => Bool.noConfusion h) (State.checkCycle_of_room hgrants hforced) hidle
    exact ⟨fun h => hpass (State.passbackOutcome_match h), fun h hzone => hpass (State.passbackOutcome_soft h hzone)⟩
  case grant =>
    intro s p id m corrected hack hlow hhigh hpass
    have hid : idInRange id = true := idInRange_iff.mpr ⟨hlow, hhigh⟩
    obtain ⟨t, hexec, htakes, hframe, hfield, hlast, hstrike⟩ :=
      exec_present_grant hack (present_exit_grant (s := s.endFrame .field) hid hpass)
    refine ⟨t, hexec, State.exitChecks_move hpass, hframe, hfield.trans (congrArg _ (decisionReply_grant corrected)), ?_,
      htakes.others, fun h => ?_, htakes.released, htakes.opened⟩
    · rw [hlast]
      cases corrected <;> rfl
    · obtain ⟨hportal, hroster, hcars, hstore⟩ := htakes.secure h
      exact ⟨hportal, hroster, hcars, hstore, hstrike (.inl h)⟩
  case regrant =>
    intro s p reader id hack hlow hhigh hchecks hleaf
    have hid : idInRange id = true := idInRange_iff.mpr ⟨hlow, hhigh⟩
    refine exec_present_regrant hack hleaf ?_
    rcases hchecks with ⟨rfl, h⟩ | ⟨rfl, h⟩
    · rw [present_entry hid, State.presentEntry, show (s.endFrame .field).entryChecks p id none = _ from h]
      rfl
    · rw [present_exit hid, State.presentExit, show (s.endFrame .field).exitChecks p id = _ from h]
      rfl

/-! ## A referral is created (R56, R136, R137) -/

/-- Settles O37: the DECISION record and the REFERRED record are noted, and the queue takes the entry. -/
theorem referralCreated : Obligations.ReferralCreated := by
  intro s p id tenancy m corrected reason hack hlow hhigh hpass hrefer hplace
  have hid : idInRange id = true := idInRange_iff.mpr ⟨hlow, hhigh⟩
  have hpresent : present (2 * p.val) id (s.endFrame .field) = (s.endFrame .field).answerRefer p id tenancy reason := by
    have hroom : (s.endFrame .field).queueHasPlace = true := by
      simpa [State.queueHasPlace, Config.referralCapacity] using hplace
    rw [present_entry hid, State.presentEntry, show (s.endFrame .field).entryChecks p id none = _ from hpass]
    dsimp only
    rw [State.concludeEntry, show (s.endFrame .field).referralOf p id = _ from hrefer]
    exact if_pos hroom
  have hexec : exec (.present (2 * p.val) id) s = .next _ := done_request hack hpresent
  obtain ⟨j, o, hnoted⟩ := s.noteDecision_withLog (entryReader p) id .refer reason none (some (s.endFrame .field).nextTicket)
  rw [hnoted] at hexec
  have hreferrals (u : State) : (u.refer p id tenancy reason).referrals = u.referrals ++
      [{ ticket := u.nextTicket, reader := entryReader p, id := id, tenancy := tenancy, reason := reason, state := .pending,
         deadline := u.after ((u.portalRec p).timeout * Config.ticksPerSecond) }] := by simp [State.refer]
  have hcounter (u : State) : (u.refer p id tenancy reason).ticketCounter = ticketAfter u.nextTicket := by
    simp [State.refer]
  have hflag (u : State) : (u.refer p id tenancy reason).office.flags.getLsbD 0 = true :=
    State.raise_flag _ .office .referralWaiting
  have hfield (u : State) : (u.refer p id tenancy reason).field = u.field := by simp
  refine ⟨_, hexec, hreferrals _, hcounter _, ?_, hflag _, ?_⟩
  · apply State.eq_of_fields <;> simp [State.withLog]
  · rfl

end Sys2Proof.Machine

/-! PROOFS. Rides: a car presentation whose checks pass (R61, R62, R70, R71, R126, R129). -/

namespace Sys2Proof.Machine

section
variable {s : State} {c : Fin 4} {id : Nat} {landings : Set16}

/-! ## The car that takes a grant (R126, R129) -/

theorem Car.carries_iff {u : Car} : u.carries id = true ↔ ∃ x ∈ u.passengers, x.id = id := by
  simp [Car.carries]

theorem Car.carries_eq_false {u : Car} (h : ∀ x ∈ u.passengers, x.id ≠ id) : u.carries id = false :=
  Bool.eq_false_iff.mpr fun hc => by
    obtain ⟨x, hx, hxid⟩ := Car.carries_iff.mp hc
    exact h x hx hxid

/-- A holder that is no passenger joins at the end, and its entry is marked with the car. -/
theorem State.grantRide_joins (h : s.cars[c].carries id = false) :
    (s.grantRide c id landings).cars[c] =
        { s.cars[c] with
          passengers := s.cars[c].passengers ++ [{ id := id, landings := landings }], session := .opened,
          timer := some (s.clock.tick + (s.carRec c).window * 100) }
      ∧ (∀ d : Fin 4, d ≠ c → (s.grantRide c id landings).cars[d] = s.cars[d])
      ∧ (s.grantRide c id landings).roster = s.roster.map (fun e => if e.id = id then { e with car := some c } else e) := by
  have hgrant : s.grantRide c id landings =
      (s.modEntry id (fun e => { e with car := some c })).modCar c (fun u => u.grant id landings (s.sessionExpiry c)) := by
    unfold State.grantRide
    rw [if_neg (by rw [h]; decide)]
  rw [hgrant, State.modCar_self, Car.grant]
  refine ⟨?_, fun d hd => ?_, rfl⟩
  · rw [show (s.modEntry id (fun e => { e with car := some c })).cars = s.cars from rfl, h]
    rfl
  · rw [State.modCar_other _ _ _ _ hd.symm, show (s.modEntry id (fun e => { e with car := some c })).cars = s.cars from rfl]

/-- A passenger's landing set is replaced in its place. -/
theorem State.grantRide_regrants (h : s.cars[c].carries id = true) :
    (s.grantRide c id landings).cars[c] =
        { s.cars[c] with
          passengers := s.cars[c].passengers.map (fun x => if x.id = id then { x with landings := landings } else x)
          session := .opened
          timer := some (s.clock.tick + (s.carRec c).window * 100) }
      ∧ (∀ d : Fin 4, d ≠ c → (s.grantRide c id landings).cars[d] = s.cars[d])
      ∧ (s.grantRide c id landings).roster = s.roster := by
  have hgrant : s.grantRide c id landings = s.modCar c (fun u => u.grant id landings (s.sessionExpiry c)) := by
    unfold State.grantRide
    rw [if_pos h]
  rw [hgrant, State.modCar_self, Car.grant]
  refine ⟨?_, fun d hd => ?_, rfl⟩
  · rw [h]
    rfl
  · rw [State.modCar_other _ _ _ _ hd.symm]

@[simp] theorem State.grantRide_frame (s : State) (c : Fin 4) (id : Nat) (landings : Set16) :
    (s.grantRide c id landings).pending = s.pending ∧ (s.grantRide c id landings).power = s.power
      ∧ (s.grantRide c id landings).pins = s.pins ∧ (s.grantRide c id landings).clock = s.clock
      ∧ (s.grantRide c id landings).store = s.store ∧ (s.grantRide c id landings).portals = s.portals
      ∧ (s.grantRide c id landings).referrals = s.referrals
      ∧ (s.grantRide c id landings).ticketCounter = s.ticketCounter ∧ (s.grantRide c id landings).fire = s.fire
      ∧ (s.grantRide c id landings).journal = s.journal ∧ (s.grantRide c id landings).office = s.office
      ∧ (s.grantRide c id landings).field = s.field ∧ (s.grantRide c id landings).outs = s.outs
      ∧ (s.grantRide c id landings).freeCount = s.freeCount := by
  unfold State.grantRide
  split <;> exact ⟨rfl, rfl, rfl, rfl, rfl, rfl, rfl, rfl, rfl, rfl, rfl, rfl, rfl, rfl⟩

/-! ## The entry that a creation makes (R61, R70) -/

theorem State.ensureEntry_of_entry (h : (s.entryOf id).isSome = true) : s.ensureEntry c id = s := by
  rw [State.ensureEntry, if_neg]
  rw [Option.isNone_iff_eq_none]
  exact Option.isSome_iff_ne_none.mp h

theorem State.ensureEntry_of_none (h : s.entryOf id = none) : s.ensureEntry c id = s.createEntry id (s.creationZone c) := by
  rw [State.ensureEntry, if_pos (by rw [h]; rfl)]

theorem State.createEntry_roster (s : State) (id zone : Nat) :
    (s.createEntry id zone).roster = s.roster ++ [s.newEntry id zone] := by
  simp [State.createEntry]

/-- A creation looks at no car's record and changes none. -/
theorem State.createEntry_carRec (s : State) (id zone : Nat) (c : Fin 4) : (s.createEntry id zone).carRec c = s.carRec c := by
  obtain ⟨_, _, _, _, hstore⟩ := State.core_eq_iff.mp (s.createEntry_core id zone)
  have hcars : (s.createEntry id zone).store.mirror.cars = s.store.mirror.cars := congrArg (·.mirror.cars) hstore
  rw [State.carRec, State.carRec, hcars]

/-- Marking the entry of a holder that has just joined marks the last entry alone. -/
theorem map_joined_entry {f : RosterEntry → RosterEntry} {e : RosterEntry} (h : s.entryOf id = none) (he : e.id = id) :
    (s.roster ++ [e]).map (fun x => if x.id = id then f x else x) = s.roster ++ [f e] := by
  have hothers : s.roster.map (fun x => if x.id = id then f x else x) = s.roster := by
    refine (List.map_congr_left fun x hx => ?_).trans (List.map_id _)
    have hne := List.find?_eq_none.mp h x hx
    exact if_neg (by simpa using hne)
  rw [List.map_append, hothers, List.map_singleton, if_pos he]

/-! ## The presentation -/

theorem present_ride {corrected : Bool} (hid : idInRange id = true) (h : s.carChecks c id = .pass landings corrected) :
    present (32 + c.val) id s = s.concludeRide c id landings corrected := by
  rw [present_car hid, State.presentCar, h]

/-- A DECISION record is noted with another journal and other port states alone. -/
theorem State.noteDecision_eq (s : State) (reader id : Nat) (d : Decision) (r : Reason) (count ticket : Option Nat) :
    ∃ j o, s.noteDecision reader id d r count ticket = s.withLog j o s.field :=
  ⟨_, _, State.append_eq s _⟩

/-- The length that the DECISION record of a ride carries. -/
def State.lengthAfterRide (s : State) (c : Fin 4) (id : Nat) : Nat :=
  if s.cars[c].carries id then s.cars[c].passengers.length else s.cars[c].passengers.length + 1

/-- With the entry there, a car with room or a passenger of its own is granted the ride. -/
theorem State.concludeRide_granted {corrected : Bool} {u : State} (hu : s.ensureEntry c id = u)
    (h : u.cars[c].passengers.length < 8 ∨ u.cars[c].carries id = true) :
    s.concludeRide c id landings corrected =
      ((u.noteDecision (carReader c) id .grant (grantReason corrected false) (some (u.lengthAfterRide c id)) none).grantRide c id
          landings,
        decisionReply .grant (grantReason corrected false) 0 landings) := by
  unfold State.concludeRide
  dsimp only
  rw [hu, if_neg]
  · rfl
  · rw [Bool.and_eq_true, Bool.not_eq_true', decide_eq_true_eq]
    rintro ⟨hfull, hcarries⟩
    rcases h with h | h
    · exact absurd hfull (Nat.not_le.mpr h)
    · rw [h] at hcarries
      exact Bool.noConfusion hcarries

/-- With the entry there, a full car denies who is no passenger of it. -/
theorem State.concludeRide_full {corrected : Bool} {u : State} (hu : s.ensureEntry c id = u)
    (hfull : 8 ≤ u.cars[c].passengers.length) (hcarries : u.cars[c].carries id = false) :
    s.concludeRide c id landings corrected = u.answerPlain (carReader c) id .deny .busy := by
  unfold State.concludeRide
  dsimp only
  rw [hu, if_pos]
  rw [Bool.and_eq_true, Bool.not_eq_true', decide_eq_true_eq]
  exact ⟨hfull, hcarries⟩

theorem decisionReply_ride (corrected : Bool) (landings : Set16) :
    decisionReply .grant (grantReason corrected false) 0 landings =
      ⟨.ok, [1, if corrected then 1 else 0, 0] ++ byte2 landings.toNat⟩ := by
  cases corrected <;> rfl

/-- The event of a ride that is granted, with the entry there in the state `u`. -/
theorem exec_ride {corrected : Bool} {u : State} (hack : s.acknowledges .field = true) (hid : idInRange id = true)
    (hpass : s.carChecks c id = .pass landings corrected) (hu : (s.endFrame .field).ensureEntry c id = u)
    (hroom : u.cars[c].passengers.length < 8 ∨ u.cars[c].carries id = true) :
    ∃ j o, exec (.present (32 + c.val) id) s =
        .next (((u.withLog j o u.field).grantRide c id landings).holdReply .field
          ⟨.ok, [1, if corrected then 1 else 0, 0] ++ byte2 landings.toNat⟩).drive
      ∧ j.getLast? = some { u.blankRecord .decision with
          subject := some (32 + c.val), id := some id, outcome := some (.decision .grant),
          reason := some (grantReason corrected false), count := some (u.lengthAfterRide c id) } := by
  have hpresent := present_ride (s := s.endFrame .field) hid hpass
  rw [State.concludeRide_granted hu hroom, decisionReply_ride] at hpresent
  have hexec : exec (.present (32 + c.val) id) s = .next _ := done_request hack hpresent
  have hlast : (u.noteDecision (carReader c) id .grant (grantReason corrected false) (some (u.lengthAfterRide c id))
      none).journal.getLast? = some { u.blankRecord .decision with
          subject := some (32 + c.val), id := some id, outcome := some (.decision .grant),
          reason := some (grantReason corrected false), count := some (u.lengthAfterRide c id) } :=
    State.append_getLast? _ _
  obtain ⟨j, o, hnoted⟩ := u.noteDecision_eq (carReader c) id .grant (grantReason corrected false)
    (some (u.lengthAfterRide c id)) none
  rw [hnoted] at hexec hlast
  exact ⟨j, o, hexec, hlast⟩

end

/-- Settles O38: the entry is there or is created, and then the passenger list decides. -/
theorem carRideGranted : Obligations.CarRideGranted := by
  intro s c id landings corrected hack hlow hhigh hpass
  have hid : idInRange id = true := idInRange_iff.mpr ⟨hlow, hhigh⟩
  refine ⟨fun hentry hroom hnone => ?joins, fun hentry hrides => ?regrants, fun joined hentry hnone hjoined => ?creates⟩
  case joins =>
    obtain ⟨j, o, hexec, _⟩ := exec_ride hack hid hpass (State.ensureEntry_of_entry (s := s.endFrame .field) hentry)
      (.inl hroom)
    obtain ⟨hself, hothers, hroster⟩ := State.grantRide_joins (landings := landings)
      (s := (s.endFrame .field).withLog j o (s.endFrame .field).field) (Car.carries_eq_false hnone)
    refine ⟨_, hexec, hself, hroster, hothers, ?_, rfl⟩
    apply State.eq_of_fields <;> simp [State.withLog]
  case regrants =>
    have hcarries : s.cars[c].carries id = true := Car.carries_iff.mpr hrides
    obtain ⟨j, o, hexec, hlast⟩ := exec_ride hack hid hpass (State.ensureEntry_of_entry (s := s.endFrame .field) hentry)
      (.inr hcarries)
    rw [show (s.endFrame .field).lengthAfterRide c id = s.cars[c].passengers.length from if_pos hcarries] at hlast
    obtain ⟨hself, hothers, hroster⟩ := State.grantRide_regrants (landings := landings)
      (s := (s.endFrame .field).withLog j o (s.endFrame .field).field) hcarries
    refine ⟨_, hexec, hself, hothers, ?_, ?_, rfl⟩
    · apply State.eq_of_fields
      case roster => exact hroster
      all_goals simp [State.withLog]
    · rw [State.drive_journal, State.holdReply_journal, (State.grantRide_frame _ c id landings).2.2.2.2.2.2.2.2.2.1]
      refine hlast.trans ?_
      cases corrected <;> rfl
  case creates =>
    have hzone : s.creationZone c = joined.zone := by rw [hjoined]; rfl
    have hnew : s.newEntry id joined.zone = joined := by
      rw [← hzone, hjoined]
      rfl
    obtain ⟨v, hv⟩ : ∃ v, v = s.createEntry id joined.zone := ⟨_, rfl⟩
    have hensured : (s.endFrame .field).ensureEntry c id = v.withLog s.journal s.office (s.endFrame .field).field := by
      rw [State.ensureEntry_of_none (s := s.endFrame .field) hentry, hv, ← hzone]
      exact s.createEntry_withLog s.journal s.office (s.endFrame .field).field id (s.creationZone c)
    have hcars : v.cars = s.cars := by rw [hv]; simp
    have hclock : v.clock = s.clock := by rw [hv]; simp
    have hrec : v.carRec c = s.carRec c := by rw [hv]; exact s.createEntry_carRec id _ c
    have hroster : v.roster = s.roster ++ [joined] := by rw [hv, State.createEntry_roster, hnew]
    have hcarries : v.cars[c].carries id = false := by
      rw [hcars]
      exact Car.carries_eq_false hnone
    refine ⟨fun hroom => ?_, fun hfull => ?_⟩
    · obtain ⟨j, o, hexec, _⟩ := exec_ride hack hid hpass hensured (.inl (by rw [State.withLog, hcars]; exact hroom))
      obtain ⟨hself, hothers, hmarked⟩ := State.grantRide_joins (landings := landings)
        (s := (v.withLog s.journal s.office (s.endFrame .field).field).withLog j o (s.endFrame .field).field) hcarries
      refine ⟨_, hexec, hmarked.trans ?_, ?_, hself.trans ?_, fun d hd => (hothers d hd).trans ?_, ?_, rfl⟩
      · show v.roster.map _ = _
        rw [hroster]
        exact map_joined_entry hentry (by rw [hjoined])
      · rw [State.drive_store, State.holdReply_store, (State.grantRide_frame _ c id landings).2.2.2.2.1, ← hv]
        rfl
      · show ({ v.cars[c] with
          passengers := v.cars[c].passengers ++ [{ id := id, landings := landings }], session := .opened,
          timer := some (v.clock.tick + (v.carRec c).window * 100) } : Car) = _
        rw [hcars, hclock, hrec]
      · show v.cars[d] = _
        rw [hcars]
      · apply State.eq_of_fields <;> simp [State.withLog, hv]
    · have hpresent := present_ride (s := s.endFrame .field) hid hpass
      rw [State.concludeRide_full hensured (by rw [State.withLog, hcars]; exact hfull) hcarries] at hpresent
      have hexec : exec (.present (32 + c.val) id) s = .next _ := done_request hack hpresent
      obtain ⟨j, o, hnoted⟩ := (v.withLog s.journal s.office (s.endFrame .field).field).noteDecision_eq (carReader c) id .deny
        .busy none none
      rw [hnoted] at hexec
      refine ⟨_, hexec, hroster, ?_, ?_, rfl⟩
      · rw [← hv]
        rfl
      · apply State.eq_of_fields <;> simp [State.withLog, hv]

end Sys2Proof.Machine

/-! PROOFS. Answers: the office's answers to referrals, the deadline's fallback and the re-check (R63, R138 to R141). -/

namespace Sys2Proof.Machine

section
variable {s : State} {p : Fin 16} {e : Referral} {m : Move} {ticket id : Nat}

/-! ## The re-check (R63, R140) -/

/-- An entry that passes is granted the move from the roster zone to the inner zone, with the ticket re-checked. -/
theorem State.entryChecks_move {x : Option Nat} {corrected : Bool} (hpass : s.entryChecks p id x = .pass m corrected) :
    m = s.entryMove p id x := by
  cases hread : s.checkReader p (entryReader p) x with
  | some r =>
    rw [State.entryChecks_of_denied hread] at hpass
    exact nomatch hpass
  | none =>
    rw [State.entryChecks_of_reader hread] at hpass
    cases hmode : s.portals[p].mode with
    | free => exact nomatch (State.modeChecks_of_free hmode).symm.trans hpass
    | locked => exact nomatch (State.modeChecks_of_locked hmode).symm.trans hpass
    | normal | referral =>
      cases hrec : s.credRec id with
      | none => exact nomatch (State.modeChecks_of_unknown (by simp only [hmode]; decide) hrec).symm.trans hpass
      | some r =>
        have hknown := (State.modeChecks_of_known (by simp only [hmode]; decide) hrec).symm.trans hpass
        split at hknown
        · exact nomatch hknown
        · exact State.checkPassage_move hknown

theorem portal?_entryReader (hreader : e.reader = 2 * p.val) : portal? (e.reader / 2) = some p := by
  rw [hreader, Nat.mul_div_cancel_left _ (by decide), portal?_val]

/-- A re-check that fails supersedes the entry. -/
theorem State.recheck_denied {r : Reason} (hreader : e.reader = 2 * p.val)
    (h : s.entryChecks p e.id (some e.ticket) = .deny r) :
    s.recheckAndResolve e = (s.resolve e (.superseded r), .superseded r) := by
  have hrecheck : s.recheck e = (s, .superseded r) := by
    rw [State.recheck, portal?_entryReader hreader]
    dsimp only
    rw [h]
  rw [State.recheckAndResolve, hrecheck]

/-- A re-check that passes at a SECURE portal grants the move and the entry. -/
theorem State.recheck_passed {corrected : Bool} (hreader : e.reader = 2 * p.val)
    (h : s.entryChecks p e.id (some e.ticket) = .pass m corrected) (hleaf : s.portals[p].leaf = .secure) :
    s.recheckAndResolve e = ((s.grantMove p m).resolve e (.granted 1), .granted 1) := by
  have hcount : s.countAfterGrant p = 1 := if_pos hleaf
  have hrecheck : s.recheck e = (s.grantMove p m, .granted 1) := by
    rw [State.recheck, portal?_entryReader hreader]
    dsimp only
    rw [h]
    dsimp only
    rw [hcount]
  rw [State.recheckAndResolve, hrecheck]

/-! ## ANSWER_REFERRAL (R139) -/

/-- The entry that an answer finds holds its ticket and its id. -/
theorem State.answered_keys (h : s.referrals.find? (fun x => x.ticket == ticket && x.id == id) = some e) :
    e.ticket = ticket ∧ e.id = id := by
  simpa using List.find?_some h

theorem answerReferral_late {verdict : Nat} (hticket : ticket ≠ 0) (hid : idInRange id = true) (hverdict : verdict ≤ 1)
    (h : s.referrals.find? (fun x => x.ticket == ticket && x.id == id) = some e) (hstate : e.state ≠ .pending) :
    answerReferral ticket id verdict s = (s, Reply.refusal .late) := by
  have hpending : e.isPending = false := Bool.eq_false_iff.mpr (mt Referral.isPending_iff.mp hstate)
  unfold answerReferral
  rw [if_neg (by simp [hticket, hid, hverdict]), h]
  dsimp only
  rw [hpending]
  rfl

theorem answerReferral_denied (hticket : ticket ≠ 0) (hid : idInRange id = true)
    (h : s.referrals.find? (fun x => x.ticket == ticket && x.id == id) = some e) (hstate : e.state = .pending) :
    answerReferral ticket id 1 s = (s.resolve e .denied, Reply.done (byte1 ticket ++ outcomeItems .denied)) := by
  have hpending : e.isPending = true := Referral.isPending_iff.mpr hstate
  unfold answerReferral
  rw [if_neg (by simp [hticket, hid]), h]
  dsimp only
  rw [hpending]
  rfl

theorem answerReferral_approved {t : State} {o : EntryOutcome} (hticket : ticket ≠ 0) (hid : idInRange id = true)
    (h : s.referrals.find? (fun x => x.ticket == ticket && x.id == id) = some e) (hstate : e.state = .pending)
    (hrecheck : s.recheckAndResolve e = (t, o)) :
    answerReferral ticket id 0 s = (t, Reply.done (byte1 ticket ++ outcomeItems o)) := by
  have hpending : e.isPending = true := Referral.isPending_iff.mpr hstate
  unfold answerReferral
  rw [if_neg (by simp [hticket, hid]), h]
  dsimp only
  rw [hpending, if_pos rfl, hrecheck]
  rfl

/-! ## The deadline (R141) -/

theorem State.reachDeadline_of_deny (hreader : e.reader = 2 * p.val) (h : (s.portalRec p).fallback = .deny) :
    s.reachDeadline e = s.resolve e .timedOut := by
  rw [State.reachDeadline, portal?_entryReader hreader, Option.map_some, h]

theorem State.reachDeadline_of_grant (hreader : e.reader = 2 * p.val) (h : (s.portalRec p).fallback = .grant) :
    s.reachDeadline e = (s.recheckAndResolve e).1 := by
  rw [State.reachDeadline, portal?_entryReader hreader, Option.map_some, h]

theorem exec_referralDeadline (hrun : s.running = true) (h : s.referral? ticket = some e) (hstate : e.state = .pending)
    (hdeadline : e.deadline = s.clock.tick) : exec (.referralDeadline ticket) s = .next (s.reachDeadline e).drive := by
  have hdue : s.deadlineDue ticket = true := by
    simp [State.deadlineDue, hrun, h, Referral.isPending_iff.mpr hstate, hdeadline]
  have hmeet : s.meetDeadline ticket = s.reachDeadline e := by
    rw [State.meetDeadline, h]
  exact done_of_eq ((timed_due (due := (·.deadlineDue ticket)) hdue).trans hmeet)

/-! ## What a resolution and a grant leave -/

/-- The referrals after the resolution of a ticket's entry. -/
theorem State.resolve_referrals_of_ticket {o : EntryOutcome} (h : e.ticket = ticket) :
    (s.resolve e o).referrals = s.referrals.map (fun x => if x.ticket = ticket then { x with state := .resolved o } else x) := by
  rw [State.resolve_referrals, h]
  rfl

theorem State.resolve_flags (s : State) (e : Referral) (o : EntryOutcome) :
    (s.resolve e o).field.flags = s.field.flags ||| 0x1000 := by
  rw [State.resolve_field]

/-- The portal of a SECURE grant. -/
theorem State.grantMove_secure_portal (hleaf : s.portals[p].leaf = .secure) :
    (s.grantMove p m).portals[p] =
      { s.portals[p] with
        leaf := .released, grants := 1, passages := 0, tailgate := true, moves := [m],
        unlock := some (s.clock.tick + s.unlockPeriod p) } := by
  rw [State.grantMove_of_secure hleaf, State.modPortal_self]
  rfl

end

/-- Settles O40: an answer or a deadline resolves the entry, after the re-check where one is made. -/
theorem answersAndDeadlinesResolve : Obligations.AnswersAndDeadlinesResolve := by
  refine ⟨fun s ticket id e hack hticket hlow hhigh hfind => ⟨fun hstate => ?denied, fun hstate verdict hverdict => ?late⟩,
    fun s p ticket e hrun hfind hstate hdeadline hreader => ?deadline⟩
  case denied =>
    have hid : idInRange id = true := idInRange_iff.mpr ⟨hlow, hhigh⟩
    obtain ⟨hkey, hholder⟩ := State.answered_keys hfind
    have hexec : exec (.answerReferral ticket id 1) s = .next _ :=
      done_request hack (answerReferral_denied (s := s.endFrame .office) hticket hid hfind hstate)
    refine ⟨_, hexec, ?_, ?_, ?_, rfl, ?_⟩
    · exact State.resolve_referrals_of_ticket (s := s.endFrame .office) hkey
    · exact (s.endFrame .office).resolve_flags e .denied
    · refine ((s.endFrame .office).resolve_getLast? e .denied).trans ?_
      rw [← hkey, ← hholder]
      rfl
    · apply State.eq_of_fields <;> simp
  case late =>
    have hid : idInRange id = true := idInRange_iff.mpr ⟨hlow, hhigh⟩
    exact done_request_office_reads hack (answerReferral_late (s := s.endFrame .office) hticket hid hverdict hfind hstate)
  case deadline =>
    have hkey := State.referral?_ticket hfind
    have hexec := exec_referralDeadline hrun hfind hstate hdeadline
    refine ⟨fun hfallback => ?_, fun r hfallback hchecks => ?_, fun m corrected hfallback hchecks hleaf => ?_⟩
    · rw [State.reachDeadline_of_deny hreader hfallback] at hexec
      refine ⟨_, hexec, State.resolve_referrals_of_ticket hkey, ?_, ?_, ?_⟩
      · rw [State.drive_field, State.resolve_flags]
      · rw [State.drive_journal, State.resolve_getLast?, ← hkey]
        rfl
      · apply State.eq_of_fields <;> simp
    · rw [State.reachDeadline_of_grant hreader hfallback, State.recheck_denied hreader (by rw [hkey]; exact hchecks)] at hexec
      refine ⟨_, hexec, State.resolve_referrals_of_ticket hkey, ?_, ?_, ?_⟩
      · rw [State.drive_field, State.resolve_flags]
      · rw [State.drive_journal, State.resolve_getLast?, ← hkey]
        rfl
      · apply State.eq_of_fields <;> simp
    · rw [State.reachDeadline_of_grant hreader hfallback,
        State.recheck_passed hreader (by rw [hkey]; exact hchecks) hleaf] at hexec
      have hgrant := State.grantMove_of_secure (m := m) hleaf
      refine ⟨_, hexec, ?_, ?_, fun q hq => ?_, ?_, ?_, ?_, ?_⟩
      · rw [State.entryChecks_move hchecks]
        rfl
      · rw [State.drive_portals, (State.resolve_frame _ _ _).2.2.2.2.2.2.1, State.grantMove_secure_portal hleaf]
      · rw [State.drive_portals, (State.resolve_frame _ _ _).2.2.2.2.2.2.1, State.grantMove_other _ _ _ _ hq]
      · rw [State.drive_referrals, State.resolve_referrals_of_ticket hkey, hgrant]
        rfl
      · rw [State.drive_field, State.resolve_flags, hgrant]
        rfl
      · rw [State.drive_journal, State.resolve_getLast?, ← hkey, hgrant]
        rfl
      · rw [hgrant]
        apply State.eq_of_fields <;> simp

/-- Settles O41: the approval re-checks the entry and resolves it with what the re-check finds. -/
theorem approvalRechecks : Obligations.ApprovalRechecks := by
  intro s p ticket id e hack hticket hlow hhigh hfind hstate hreader
  have hid : idInRange id = true := idInRange_iff.mpr ⟨hlow, hhigh⟩
  obtain ⟨hkey, hholder⟩ := State.answered_keys hfind
  refine ⟨fun r hchecks => ?_, fun m corrected hchecks hleaf => ?_⟩
  · have hrecheck := State.recheck_denied (s := s.endFrame .office) (r := r) hreader (by rw [hkey, hholder]; exact hchecks)
    have hexec : exec (.answerReferral ticket id 0) s = .next _ :=
      done_request hack (answerReferral_approved (s := s.endFrame .office) hticket hid hfind hstate hrecheck)
    refine ⟨_, hexec, State.resolve_referrals_of_ticket (s := s.endFrame .office) hkey, ?_, rfl⟩
    apply State.eq_of_fields <;> simp
  · have hrecheck := State.recheck_passed (s := s.endFrame .office) (m := m) (corrected := corrected) hreader
      (by rw [hkey, hholder]; exact hchecks) hleaf
    have hexec : exec (.answerReferral ticket id 0) s = .next _ :=
      done_request hack (answerReferral_approved (s := s.endFrame .office) hticket hid hfind hstate hrecheck)
    have hgrant := State.grantMove_of_secure (s := s.endFrame .office) (m := m) (p := p) hleaf
    refine ⟨_, hexec, ?_, ?_, ?_, fun q hq => ?_, ?_, rfl⟩
    · rw [State.entryChecks_move hchecks]
      rfl
    · rw [State.drive_portals, State.holdReply_portals, (State.resolve_frame _ _ _).2.2.2.2.2.2.1]
      exact State.grantMove_secure_portal (s := s.endFrame .office) hleaf
    · rw [State.drive_referrals, State.holdReply_referrals, State.resolve_referrals_of_ticket hkey, hgrant]
      rfl
    · rw [State.drive_portals, State.holdReply_portals, (State.resolve_frame _ _ _).2.2.2.2.2.2.1,
        State.grantMove_other _ _ _ _ hq]
      rfl
    · rw [hgrant]
      apply State.eq_of_fields <;> simp

end Sys2Proof.Machine

/-! PROOFS. Refits: a Portal Controller takes a new record up, and PUT_PORTAL completes (R20, R97, R99, R106). -/

namespace Sys2Proof.Machine

/-! ## What a mode that is entered leaves of its portal -/

theorem Portal.entered_kept (m : Mode) (h : HeldTimer) (q : Portal) :
    (q.entered m h).verdict = q.verdict ∧ (q.entered m h).position = q.position
      ∧ (q.entered m h).leafDebounce = q.leafDebounce ∧ (q.entered m h).beam = q.beam := by
  unfold Portal.entered
  repeat' split
  all_goals exact ⟨rfl, rfl, rfl, rfl⟩

section
variable {s : State} {p : Fin 16}

theorem State.recomputeMode_kept (s : State) (p : Fin 16) :
    (s.recomputeMode p).portals[p].verdict = s.portals[p].verdict
      ∧ (s.recomputeMode p).portals[p].position = s.portals[p].position
      ∧ (s.recomputeMode p).portals[p].leafDebounce = s.portals[p].leafDebounce
      ∧ (s.recomputeMode p).portals[p].beam = s.portals[p].beam := by
  unfold State.recomputeMode
  split
  · exact ⟨rfl, rfl, rfl, rfl⟩
  · rw [State.enterMode_self]
    exact Portal.entered_kept _ _ _

/-! ## The leaf sensor (R106) -/

variable {old : PortalRec}

/-- A portal whose leaf sensor has been taken away. -/
def Portal.unsensed (q : Portal) : Portal := { q with position := .notSensed, leafDebounce := none }

theorem State.takeUpSensor_same (h : old.leafSensor = (s.portalRec p).leafSensor) : s.takeUpSensor p old = s := by
  unfold State.takeUpSensor
  rw [h]
  cases (s.portalRec p).leafSensor <;> rfl

theorem State.takeUpSensor_taken (hold : old.leafSensor = true) (hnew : (s.portalRec p).leafSensor = false) :
    s.takeUpSensor p old = (s.modPortal p Portal.unsensed).closeLeaf p := by
  unfold State.takeUpSensor
  rw [hold, hnew]
  rfl

theorem State.takeUpSensor_fitted (hold : old.leafSensor = false) (hnew : (s.portalRec p).leafSensor = true) :
    s.takeUpSensor p old =
      s.modPortal p (fun q => { q with position := .unknown, leafDebounce := some (s.clock.tick + 5) }) := by
  unfold State.takeUpSensor
  rw [hold, hnew]
  rfl

/-- What the change of a leaf sensor makes of its portal's position, and what it leaves. -/
theorem State.takeUpSensor_self (s : State) (p : Fin 16) (old : PortalRec) :
    (s.takeUpSensor p old).portals[p].hold = s.portals[p].hold
      ∧ (s.takeUpSensor p old).portals[p].mode = s.portals[p].mode
      ∧ (s.takeUpSensor p old).portals[p].beam = s.portals[p].beam
      ∧ (s.takeUpSensor p old).portals[p].position =
          (if old.leafSensor = (s.portalRec p).leafSensor then s.portals[p].position
           else if (s.portalRec p).leafSensor = true then .unknown else .notSensed)
      ∧ (s.takeUpSensor p old).portals[p].leafDebounce =
          (if old.leafSensor = (s.portalRec p).leafSensor then s.portals[p].leafDebounce
           else if (s.portalRec p).leafSensor = true then some (s.clock.tick + 5) else none) := by
  by_cases hsame : old.leafSensor = (s.portalRec p).leafSensor
  · rw [State.takeUpSensor_same hsame, if_pos hsame, if_pos hsame]
    exact ⟨rfl, rfl, rfl, rfl, rfl⟩
  rw [if_neg hsame, if_neg hsame]
  cases hnew : (s.portalRec p).leafSensor with
  | true =>
    rw [State.takeUpSensor_fitted (by simpa [hnew] using hsame) hnew, State.modPortal_self]
    exact ⟨rfl, rfl, rfl, rfl, rfl⟩
  | false =>
    rw [State.takeUpSensor_taken (by simpa [hnew] using hsame) hnew]
    rcases (s.modPortal p Portal.unsensed).closeLeaf_kept p with h | h
    · rw [h, State.modPortal_self]
      exact ⟨rfl, rfl, rfl, rfl, rfl⟩
    · rw [h, State.modPortal_self]
      exact ⟨rfl, rfl, rfl, rfl, rfl⟩

/-! ## The beam (R96, R106) -/

/-- The filter of a portal after the change of its beam. -/
def State.beamAfter (s : State) (p : Fin 16) (old : PortalRec) : BeamFilter :=
  if old.beam = (s.portalRec p).beam then s.portals[p].beam
  else if (s.portalRec p).beam = false then .stopped
  else s.beamStart p

/-- A change of a portal to what it is changes nothing. -/
theorem State.modPortal_of_same {f : Portal → Portal} (h : f s.portals[p] = s.portals[p]) : s.modPortal p f = s := by
  unfold State.modPortal
  rw [h]
  apply State.eq_of_fields
  case portals => exact Vector.set_getElem_self _
  all_goals rfl

theorem State.takeUpBeam_eq (s : State) (p : Fin 16) (old : PortalRec) :
    s.takeUpBeam p old = s.modPortal p (fun q => { q with beam := s.beamAfter p old }) := by
  unfold State.takeUpBeam State.beamAfter
  by_cases hsame : old.beam = (s.portalRec p).beam
  · rw [if_pos hsame, hsame, State.modPortal_of_same (f := fun q => { q with beam := s.portals[p].beam }) rfl]
    cases (s.portalRec p).beam <;> rfl
  rw [if_neg hsame]
  cases hnew : (s.portalRec p).beam with
  | true =>
    have hold : old.beam = false := by simpa [hnew] using hsame
    rw [hold]
    rfl
  | false =>
    have hold : old.beam = true := by simpa [hnew] using hsame
    rw [hold]
    rfl

/-! ## The record taken up (R20, R106) -/

/-- The part with the new record's leaf sensor and beam taken up and its schedule judged, before the mode is recomputed. -/
def State.refitted (s : State) (p : Fin 16) (old : PortalRec) : State :=
  ((s.takeUpSensor p old).takeUpBeam p old).judgeSchedule p

theorem State.takeUpPortal_eq (s : State) (p : Fin 16) (old : PortalRec) :
    s.takeUpPortal p old = (s.refitted p old).recomputeMode p := rfl

/-- The leaf sensor's part apart, the refit changes the filter and the verdict of its portal alone. -/
theorem State.refitted_eq (s : State) (p : Fin 16) (old : PortalRec) :
    s.refitted p old =
      (s.takeUpSensor p old).modPortal p (fun q => { q with beam := s.beamAfter p old, verdict := s.scheduleVerdict p }) := by
  obtain ⟨_, _, hpins, hclock, hstore, _⟩ := s.takeUpSensor_frame p old
  have hrec : (s.takeUpSensor p old).portalRec p = s.portalRec p := by rw [State.portalRec, hstore, ← State.portalRec]
  have hbeam : (s.takeUpSensor p old).beamAfter p old = s.beamAfter p old := by
    rw [State.beamAfter, State.beamAfter, hrec, State.beamStart, State.beamStart, State.after, State.after, hpins, hclock,
      (s.takeUpSensor_self p old).2.2.1]
  have hverdict : ((s.takeUpSensor p old).takeUpBeam p old).scheduleVerdict p = s.scheduleVerdict p := by
    simp only [State.scheduleVerdict, State.portalRec, State.verdict, State.takeUpBeam_frame, hclock, hstore]
  rw [State.refitted, State.judgeSchedule, hverdict, State.takeUpBeam_eq, State.modPortal_modPortal, hbeam]

/-- The portal that has taken the record up, but for its mode. -/
theorem State.refitted_self (s : State) (p : Fin 16) (old : PortalRec) :
    (s.refitted p old).portals[p] =
      { (s.takeUpSensor p old).portals[p] with beam := s.beamAfter p old, verdict := s.scheduleVerdict p } := by
  rw [State.refitted_eq, State.modPortal_self]

end

theorem State.refitted_frame (s : State) (p : Fin 16) (old : PortalRec) :
    (s.refitted p old).store = s.store ∧ (s.refitted p old).roster = s.roster ∧ (s.refitted p old).cars = s.cars
      ∧ (s.refitted p old).referrals = s.referrals ∧ (s.refitted p old).fire = s.fire
      ∧ (s.refitted p old).journal = (s.takeUpSensor p old).journal
      ∧ ∀ q : Fin 16, q ≠ p → (s.refitted p old).portals[q] = s.portals[q] := by
  rw [State.refitted_eq]
  refine ⟨by simp, by simp, by simp, by simp, by simp, rfl, fun q hq => ?_⟩
  rw [State.modPortal_other _ _ _ _ hq.symm]
  unfold State.takeUpSensor
  repeat' split
  · rw [State.closeLeaf_other _ _ _ hq, State.modPortal_other _ _ _ _ hq.symm]
  · rw [State.modPortal_other _ _ _ _ hq.symm]
  · rfl

/-- A fitted or unchanged sensor, or a portal with no open leaf, ends no cycle and has no record. -/
theorem State.takeUpSensor_quiet {s : State} {p : Fin 16} {old : PortalRec}
    (h : old.leafSensor = false ∨ (s.portalRec p).leafSensor = true ∨ s.portals[p].leaf = .secure
      ∨ s.portals[p].leaf = .released ∨ s.portals[p].leaf = .free) :
    (s.takeUpSensor p old).journal = s.journal
      ∧ (s.takeUpSensor p old).portals[p] =
          { s.portals[p] with
            position := (s.takeUpSensor p old).portals[p].position
            leafDebounce := (s.takeUpSensor p old).portals[p].leafDebounce } := by
  by_cases hsame : old.leafSensor = (s.portalRec p).leafSensor
  · rw [State.takeUpSensor_same hsame]
    exact ⟨rfl, rfl⟩
  cases hnew : (s.portalRec p).leafSensor with
  | true =>
    rw [State.takeUpSensor_fitted (by simpa [hnew] using hsame) hnew, State.modPortal_self]
    exact ⟨rfl, rfl⟩
  | false =>
    have hold : old.leafSensor = true := by simpa [hnew] using hsame
    have hleaf : (s.modPortal p Portal.unsensed).portals[p].leaf = .secure
        ∨ (s.modPortal p Portal.unsensed).portals[p].leaf = .released
        ∨ (s.modPortal p Portal.unsensed).portals[p].leaf = .free := by
      rw [State.modPortal_self]
      rw [hold, hnew] at h
      exact (h.resolve_left Bool.noConfusion).resolve_left Bool.noConfusion
    rw [State.takeUpSensor_taken hold hnew, State.closeLeaf_other_leaf hleaf, State.modPortal_self]
    exact ⟨rfl, rfl⟩

/-- A sensor taken away from a portal with an open leaf ends the cycle with the records due. -/
theorem State.takeUpSensor_closes {s : State} {p : Fin 16} {old : PortalRec} (hold : old.leafSensor = true)
    (hnew : (s.portalRec p).leafSensor = false)
    (hleaf : s.portals[p].leaf = .opened ∨ s.portals[p].leaf = .held ∨ s.portals[p].leaf = .forced) :
    (s.takeUpSensor p old).portals[p] = s.portals[p].unsensed.endCycle .secure
      ∧ (s.journal.length + 2 ≤ 512 →
          (s.takeUpSensor p old).journal = s.journal ++ s.closingRecords p s.portals[p] (s.portalRec p).beam) := by
  have hself : (s.modPortal p Portal.unsensed).portals[p] = s.portals[p].unsensed := State.modPortal_self ..
  rw [State.takeUpSensor_taken hold hnew]
  refine ⟨?_, fun hroom => ?_⟩
  · rw [State.closeLeaf_self (by rw [hself]; exact hleaf), hself]
  · rw [State.closeLeaf_journal (by exact hroom), hself]
    rfl

/-! ## PUT_PORTAL completes (R20) -/

/-- The part at whose last verify a PUT_PORTAL completes: the slot is programmed and the mirror holds the record. -/
def State.portalPut (s : State) (p : Fin 16) (r : PortalRec) : State :=
  { s with
    store :=
      { s.store.program true (.portal p r) with mirror := { s.store.mirror with portals := s.store.mirror.portals.set p r } } }

theorem exec_portalPut {s : State} {p : Fin 16} {r : PortalRec} {retry : Bool} (hrun : s.running = true)
    (hwait : s.store.waiting = none)
    (hjob : s.store.job = some { task := .request, writes := [.portal p r], verified := 0, retry := retry })
    {u : State} (hu : (s.portalPut p r).takeUpPortal p (s.portalRec p) = u) :
    exec (.slotVerified true) s =
      .next (State.drive
        { u with
          store := { u.store with phase := .ready, job := none }
          office := { u.office with busy := false, reply := some ⟨.ok, []⟩ } }) := by
  have huwait : u.store.waiting = none := by
    obtain ⟨_, _, _, _, hstore⟩ := State.core_eq_iff.mp ((s.portalPut p r).takeUpPortal_core p (s.portalRec p))
    rw [← hu]
    exact (congrArg Store.waiting hstore).trans hwait
  have hcomplete := State.completeRequest_of_none_gone (s := { s with store := s.store.program true (.portal p r) })
    (writes := [.portal p r]) (goneIds_of_credentials_eq rfl) (u := u) hu huwait
  rw [exec_slotVerified_running hrun, State.slotVerified_agreeing hjob rfl, State.slotAgrees_request rfl rfl]
  exact congrArg (fun t => Host.Outcome.next (State.drive t)) hcomplete

/-- What the refit of portal `p` to record `r` makes of the part, before the mode is recomputed. -/
structure Refits (s v : State) (p : Fin 16) (r : PortalRec) : Prop where
  record : v.portalRec p = r
  fire : v.fire = s.fire
  roster : v.roster = s.roster
  cars : v.cars = s.cars
  referrals : v.referrals = s.referrals
  others : ∀ q : Fin 16, q ≠ p → v.portals[q] = s.portals[q]
  hold : v.portals[p].hold = s.portals[p].hold
  mode : v.portals[p].mode = s.portals[p].mode
  verdict : v.portals[p].verdict = (match r.freeProfile with | some f => s.verdict f | none => .outWindow)
  position : v.portals[p].position =
    if (s.portalRec p).leafSensor = r.leafSensor then s.portals[p].position
    else if r.leafSensor = true then .unknown else .notSensed
  leafDebounce : v.portals[p].leafDebounce =
    if (s.portalRec p).leafSensor = r.leafSensor then s.portals[p].leafDebounce
    else if r.leafSensor = true then some (s.clock.tick + 5) else none
  beam : v.portals[p].beam =
    if (s.portalRec p).beam = r.beam then s.portals[p].beam
    else if r.beam = false then .stopped
    else if s.pins.beam[p] = true then .counted else .rearming (s.clock.tick + 12)
  quiet : (s.portalRec p).leafSensor = false ∨ r.leafSensor = true ∨ s.portals[p].leaf = .secure
      ∨ s.portals[p].leaf = .released ∨ s.portals[p].leaf = .free →
    v.portals[p] =
        { s.portals[p] with
          position := v.portals[p].position, leafDebounce := v.portals[p].leafDebounce, beam := v.portals[p].beam,
          verdict := v.portals[p].verdict }
      ∧ v.journal = s.journal
  closes : (s.portalRec p).leafSensor = true → r.leafSensor = false →
    s.portals[p].leaf = .opened ∨ s.portals[p].leaf = .held ∨ s.portals[p].leaf = .forced →
    v.portals[p] =
        { s.portals[p].unsensed.endCycle .secure with
          beam := v.portals[p].beam, verdict := v.portals[p].verdict }
      ∧ (s.journal.length + 2 ≤ 512 → v.journal = s.journal ++ s.closingRecords p s.portals[p] r.beam)

/-- The part with a PUT_PORTAL's record is refitted to it. -/
theorem State.portalPut_refits (s : State) (p : Fin 16) (r : PortalRec) :
    Refits s ((s.portalPut p r).refitted p (s.portalRec p)) p r := by
  obtain ⟨w, hw⟩ : ∃ w, w = s.portalPut p r := ⟨_, rfl⟩
  have hrec : w.portalRec p = r := by simp [hw, State.portalPut, State.portalRec]
  have hportals : w.portals = s.portals := by rw [hw]; rfl
  obtain ⟨hhold, hmode, _, hposition, hdebounce⟩ := w.takeUpSensor_self p (s.portalRec p)
  rw [hrec, hportals] at hposition hdebounce
  rw [hportals] at hhold hmode
  have hself := w.refitted_self p (s.portalRec p)
  obtain ⟨hstore, hroster, hcars, hreferrals, hfire, hjournal, hothers⟩ := w.refitted_frame p (s.portalRec p)
  rw [← hw]
  generalize w.refitted p (s.portalRec p) = v at hself hstore hroster hcars hreferrals hfire hjournal hothers
  refine ⟨?_, ?_, ?_, ?_, ?_, fun q hq => ?_, ?_, ?_, ?_, ?_, ?_, ?_, fun hquiet => ?_, fun hold hnew hleaf => ?_⟩
  case refine_1 => rw [State.portalRec, hstore, ← State.portalRec, hrec]
  case refine_2 => rw [hfire, hw]; rfl
  case refine_3 => rw [hroster, hw]; rfl
  case refine_4 => rw [hcars, hw]; rfl
  case refine_5 => rw [hreferrals, hw]; rfl
  case refine_6 => rw [hothers q hq, hportals]
  case refine_7 => rw [hself]; exact hhold
  case refine_8 => rw [hself]; exact hmode
  case refine_9 =>
    rw [hself]
    show w.scheduleVerdict p = _
    rw [State.scheduleVerdict, hrec, hw]
    cases r.freeProfile <;> rfl
  case refine_10 => rw [hself]; exact hposition
  case refine_11 =>
    rw [hself]
    refine hdebounce.trans ?_
    rw [hw]
    rfl
  case refine_12 =>
    rw [hself]
    show w.beamAfter p (s.portalRec p) = _
    rw [State.beamAfter, hrec, hportals, hw]
    rfl
  case refine_13 =>
    obtain ⟨htaken, hportal⟩ := State.takeUpSensor_quiet (s := w) (p := p) (old := s.portalRec p)
      (by rw [hrec, hportals]; exact hquiet)
    rw [hself, hjournal, htaken, hportal, hportals, hw]
    exact ⟨rfl, rfl⟩
  case refine_14 =>
    obtain ⟨hportal, htaken⟩ := State.takeUpSensor_closes (s := w) (p := p) (old := s.portalRec p) hold
      (by rw [hrec]; exact hnew) (by rw [hportals]; exact hleaf)
    rw [hself, hportal, hportals]
    refine ⟨rfl, fun hroom => ?_⟩
    rw [hjournal, htaken (by rw [hw]; exact hroom), hrec, hportals, hw]
    rfl

/-- The mode that a refitted portal takes. -/
theorem Refits.effectiveMode {s v : State} {p : Fin 16} {r : PortalRec} (h : Refits s v p r) :
    v.effectiveMode p =
      if s.fire.active = true ∧ r.egress = true then .free
      else (s.portals[p].hold).elim (if v.portals[p].verdict = .inWindow then .free else r.baseMode.mode) id := by
  have hunder : v.egressUnderFire p = true ↔ s.fire.active = true ∧ r.egress = true := by
    rw [State.egressUnderFire_iff, h.record, h.fire]
  rw [State.effectiveMode, h.hold, h.record]
  simp only [hunder]
  cases s.portals[p].hold <;> rfl

/-- Settles O29: the portal is refitted to the record, and then its mode is recomputed. -/
theorem portalPutTakenUp : Obligations.PortalPutTakenUp := by
  intro s p r retry hrun hwait hjob
  have hrefits := s.portalPut_refits p r
  have hcore := (State.core_eq_iff.mp ((s.portalPut p r).takeUpPortal_core p (s.portalRec p))).2.2.2.2
  have hframe := (s.portalPut p r).takeUpPortal_frame p (s.portalRec p)
  have hrunning := (Quiet.takeUpPortal (s.portalPut p r) p (s.portalRec p)).toKeeps.running hrun
  obtain ⟨u, hu⟩ : ∃ u, u = (s.portalPut p r).takeUpPortal p (s.portalRec p) := ⟨_, rfl⟩
  have hexec := exec_portalPut (u := u) hrun hwait hjob hu.symm
  rw [← hu] at hcore hframe hrunning
  rw [State.takeUpPortal_eq] at hu
  generalize (s.portalPut p r).refitted p (s.portalRec p) = v at hrefits hu
  have hportals : u.store.mirror.portals = s.store.mirror.portals.set p r := congrArg (·.mirror.portals) hcore
  have hslots : u.store.slots = { s.store.slots with portals := s.store.slots.portals.put p.val (.valid r) } :=
    congrArg Store.slots hcore
  have hrec : u.portalRec p = r := by simp [State.portalRec, hportals]
  obtain ⟨hverdict, hposition, hdebounce, hbeam⟩ := v.recomputeMode_kept p
  have hhold := v.recomputeMode_hold p
  have hmode := v.recomputeMode_mode p
  rw [← hu] at hverdict hposition hdebounce hbeam hhold hmode
  refine ⟨_, hexec, rfl, rfl, hportals, hslots, rfl, rfl, ?others, ?frame, hhold.trans hrefits.hold,
    hverdict.trans hrefits.verdict, ?mode, hposition.trans hrefits.position, hdebounce.trans hrefits.leafDebounce,
    hbeam.trans hrefits.beam, ?strike, ?same⟩
  case others =>
    intro q hq
    show u.portals[q] = _
    rw [hu, State.recomputeMode_other _ _ _ hq, hrefits.others q hq]
  case frame =>
    apply State.eq_of_fields <;> simp [hframe, State.portalPut]
  case mode =>
    refine hmode.trans ?_
    rw [hrefits.effectiveMode, ← hverdict]
    cases s.portals[p].hold <;> rfl
  case strike =>
    have hready : State.running { u with
        store := { u.store with phase := .ready, job := none }
        office := { u.office with busy := false, reply := some ⟨.ok, []⟩ } } = true := by
      simp only [State.running, Bool.and_eq_true] at hrunning ⊢
      exact ⟨hrunning.1, rfl⟩
    rw [← hrec]
    exact State.drive_strike (s := { u with
      store := { u.store with phase := .ready, job := none }
      office := { u.office with busy := false, reply := some ⟨.ok, []⟩ } }) hready p
  case same =>
    intro hsame
    have hstays : u = v := by
      rw [hu]
      exact State.recomputeMode_of_same (hmode.symm.trans (Eq.trans hsame hrefits.mode.symm))
    rw [State.drive_roster, State.drive_cars, State.drive_referrals, State.drive_portals, State.drive_journal, hstays]
    refine ⟨hrefits.roster, hrefits.cars, hrefits.referrals, hrefits.quiet, fun hold hnew hleaf => ?_⟩
    obtain ⟨hportal, hjournal⟩ := hrefits.closes hold hnew hleaf
    rw [hportal]
    exact ⟨rfl, rfl, rfl, rfl, rfl, hjournal⟩

end Sys2Proof.Machine

/-! PROOFS. Boundaries: the minute boundary: the stepping of the roster with its overstays, and the schedules and modes of
the portals (R28, R31, R34, R73, R74, R76, R99, R100). -/

namespace Sys2Proof.Machine

/-! ## The clock at the boundary (R28) -/

section
variable {s : State} {k : Clock}

/-- The tick that ends a minute makes the boundary due. -/
theorem Clock.advance_boundaryDue (h : k.endsMinute = true) : k.advance.boundaryDue = true := by
  obtain ⟨hphase, hsecond, _⟩ := Clock.endsMinute_iff.mp h
  have hlast : ¬k.phase + 1 < Config.ticksPerSecond := by
    show ¬k.phase + 1 < 100
    omega
  rw [Clock.advance, if_neg hlast, if_neg (by omega)]

/-- A boundary that has come is taken. -/
theorem State.boundary_due (h : s.clock.boundaryDue = true) : s.boundary = s.takeBoundary := by
  rw [State.boundary, if_pos (by rw [h]; rfl), State.tick, if_pos h]
  rfl

/-- A boundary that the tick to come brings, where no timer is due, is taken after the clock's step. -/
theorem State.boundary_ahead (h : s.clock.endsMinute = true) (hsettled : s.settleDue = s) (hpower : s.power.main = true) :
    s.boundary = State.takeBoundary { s with clock := s.clock.advance } := by
  have hnone : s.clock.boundaryDue = false := by
    simp only [Clock.endsMinute, Bool.and_eq_true, Bool.not_eq_true'] at h
    exact h.2
  have hpowered : s.clockPowered = true := by rw [State.clockPowered, hpower]; rfl
  rw [State.boundary, if_pos (by rw [h, Bool.or_true]), State.tick, if_neg (by rw [hnone]; decide), hsettled, State.setStraps,
    State.stepClock, if_pos hpowered]
  exact if_pos (Clock.advance_boundaryDue h)

/-- The state in which a running part leaves a minute boundary. -/
def State.bounded (s : State) (k : Clock) : State :=
  allPortals.foldl State.portalBoundary (State.countOutOfWindow { s with clock := k })

theorem State.takeBoundary_running (hrun : s.running = true) : s.takeBoundary = s.bounded s.clock.nextMinute := by
  rw [State.takeBoundary, whenRunning_of_running (by exact hrun), State.bounded]

theorem State.takeBoundary_stopped (hstop : s.running = false) :
    s.takeBoundary = { s with clock := s.clock.nextMinute } := by
  rw [State.takeBoundary, whenRunning_of_stopped (by exact hstop)]

theorem exec_minuteBoundary_running (hrun : s.running = true)
    (hk : (s.clock.boundaryDue = true ∧ k = s.clock.nextMinute)
      ∨ (s.clock.endsMinute = true ∧ s.settleDue = s ∧ k = s.clock.advance.nextMinute)) :
    exec .minuteBoundary s = .next (s.bounded k).drive := by
  rcases hk with ⟨hdue, rfl⟩ | ⟨hends, hsettled, rfl⟩
  · exact done_of_eq ((State.boundary_due hdue).trans (State.takeBoundary_running hrun))
  · have hpower : s.power.main = true := by
      simp only [State.running, Bool.and_eq_true] at hrun
      exact hrun.1.1
    have hopened := State.takeBoundary_running (s := { s with clock := s.clock.advance }) hrun
    refine done_of_eq ((State.boundary_ahead hends hsettled hpower).trans (hopened.trans ?_))
    simp only [State.bounded]

theorem exec_minuteBoundary_stopped (hstop : s.running = false) (hdue : s.clock.boundaryDue = true) :
    exec .minuteBoundary s = .next (State.drive { s with clock := s.clock.nextMinute }) :=
  done_of_eq ((State.boundary_due hdue).trans (State.takeBoundary_stopped hstop))

/-! ## The roster (R73, R74) -/

/-- The OVERSTAY record and the flag of an entry that overstays. -/
def State.noteOverstay (s : State) (e : RosterEntry) : State :=
  (s.append { s.blankRecord .overstay with id := some e.id, count := some e.counter }).raise .office .overstay

/-- An entry whose overstay flag goes from clear to set. -/
def State.overstays (s : State) (e : RosterEntry) : Bool := !e.overstay && (s.stepEntry e).overstay

theorem State.countOutOfWindow_frozen (h : s.fire.active = true) : s.countOutOfWindow = s := if_pos h

/-- Under a CLEAR fire state every entry is stepped, and those that then overstay are noted in list order. -/
theorem State.countOutOfWindow_clear (h : s.fire.active = false) :
    s.countOutOfWindow =
      (s.roster.filter s.overstays).foldl (fun t e => t.noteOverstay (s.stepEntry e))
        { s with roster := s.roster.map s.stepEntry } := by
  have hraise (t : State) (e : RosterEntry) :
      raiseOverstay t e (s.stepEntry e) = if s.overstays e then t.noteOverstay (s.stepEntry e) else t := by
    rw [raiseOverstay, State.overstays, Bool.and_comm]
    rfl
  unfold State.countOutOfWindow
  rw [if_neg (by rw [h]; decide)]
  simp only [List.map_map, List.foldl_map, List.foldl_filter, hraise]
  rfl

theorem State.stepEntry_kept (s : State) (e : RosterEntry) :
    (s.stepEntry e).id = e.id ∧ (s.stepEntry e).zone = e.zone ∧ (s.stepEntry e).muster = e.muster
      ∧ (s.stepEntry e).car = e.car := by
  unfold State.stepEntry
  split <;> exact ⟨rfl, rfl, rfl, rfl⟩

theorem State.stepEntry_of_in {e : RosterEntry} (h : s.verdict (s.entryProfile e) = .inWindow) :
    s.stepEntry e = { e with counter := 0, overstay := false } := by
  rw [State.stepEntry, h]

theorem State.stepEntry_of_out {e : RosterEntry} (h : s.verdict (s.entryProfile e) = .outWindow) :
    s.stepEntry e =
      { e with
        counter := min (e.counter + 1) 255
        overstay := decide ((profileOf s.store.mirror (s.entryProfile e)).grace < min (e.counter + 1) 255) } := by
  rw [State.stepEntry, h]

end

/-- What the counting of overstays leaves of the part. -/
theorem State.countOutOfWindow_kept (s : State) :
    s.countOutOfWindow =
      { s with
        roster := if s.fire.active = true then s.roster else s.roster.map s.stepEntry
        journal := s.countOutOfWindow.journal, office := s.countOutOfWindow.office } := by
  cases hfire : s.fire.active with
  | true =>
    rw [State.countOutOfWindow_frozen hfire]
    rfl
  | false =>
    obtain ⟨u, hu⟩ : ∃ u, u = s.countOutOfWindow := ⟨_, rfl⟩
    have hframe : u = { s with roster := s.roster.map s.stepEntry, journal := u.journal, office := u.office } := by
      rw [hu, State.countOutOfWindow_clear hfire]
      refine foldl_invariant (P := fun t : State =>
        t = { s with roster := s.roster.map s.stepEntry, journal := t.journal, office := t.office }) (fun t e ht => ?_) _ rfl
      rw [State.noteOverstay, State.append_eq]
      generalize t.append _ = v
      rw [ht]
      rfl
    rw [← hu]
    exact hframe

theorem FlagsRise.noteOverstay (s : State) (e : RosterEntry) : FlagsRise s (s.noteOverstay e) :=
  (FlagsRise.append _ _).trans (FlagsRise.raise _ _ _)

/-- An overstay raises the Office Port's flag. -/
theorem State.countOutOfWindow_flag {s : State} {e : RosterEntry} (hclear : s.fire.active = false) (he : e ∈ s.roster)
    (hover : s.overstays e = true) : s.countOutOfWindow.office.flags.getLsbD 3 = true := by
  rw [State.countOutOfWindow_clear hclear]
  obtain ⟨l, m, hlm⟩ := List.append_of_mem (List.mem_filter.mpr ⟨he, hover⟩)
  rw [hlm, List.foldl_append, List.foldl_cons]
  exact (FlagsRise.foldl (fun t e => FlagsRise.noteOverstay t _) m _ 3).1 (State.raise_flag _ .office .overstay)

/-- The OVERSTAY records stand in list order. -/
theorem State.countOutOfWindow_journal {s : State} (hclear : s.fire.active = false)
    (hroom : s.journal.length + s.roster.length ≤ 512) :
    s.countOutOfWindow.journal =
      s.journal ++ (s.roster.filter s.overstays).map (fun e =>
        { s.blankRecord .overstay with id := some e.id, count := some (s.stepEntry e).counter }) := by
  have hpicked := List.length_filter_le s.overstays s.roster
  rw [State.countOutOfWindow_clear hclear]
  refine foldl_journal (fun t e => by simp [State.noteOverstay]) (fun t e ht hfits => ?_) _ ?_
  · rw [State.noteOverstay, State.raise_journal, State.append_journal_of_room _ hfits, State.blankRecord_congr ht,
      (s.stepEntry_kept e).1]
    rfl
  · show s.journal.length + _ ≤ 512
    omega

/-! ## The portals (R34, R99, R100) -/

/-- Where each step changes its own portal alone, a portal that is not of the run stays. -/
theorem foldl_portal_after {f : State → Fin 16 → State} (hother : ∀ t q r, r ≠ q → (f t q).portals[r] = t.portals[r])
    {l : List (Fin 16)} {p : Fin 16} (hp : p ∉ l) (s : State) : (l.foldl f s).portals[p] = s.portals[p] := by
  induction l generalizing s with
  | nil => rfl
  | cons q l ih =>
    rw [List.mem_cons, not_or] at hp
    rw [List.foldl_cons, ih hp.2, hother s q p hp.1]

/-- Where each step changes its own portal alone, a portal of the run takes its step in a state that the invariant
describes and in which it stands as before the run. -/
theorem foldl_portal_step {f : State → Fin 16 → State} {I : State → Prop}
    (hother : ∀ t q r, r ≠ q → (f t q).portals[r] = t.portals[r]) (hinv : ∀ t q, I t → I (f t q)) {l : List (Fin 16)}
    (hl : l.Nodup) {p : Fin 16} (hp : p ∈ l) {s : State} (hs : I s) :
    ∃ w, I w ∧ w.portals[p] = s.portals[p] ∧ (l.foldl f s).portals[p] = (f w p).portals[p] := by
  induction l generalizing s with
  | nil => exact absurd hp List.not_mem_nil
  | cons q l ih =>
    obtain ⟨hq, hl⟩ := List.nodup_cons.mp hl
    by_cases hpq : p = q
    · subst hpq
      exact ⟨s, hs, rfl, foldl_portal_after hother hq (f s p)⟩
    · obtain ⟨w, hw, hwp, hwl⟩ := ih hl ((List.mem_cons.mp hp).resolve_left hpq) (hinv s q hs)
      exact ⟨w, hw, hwp.trans (hother s q p hpq), hwl⟩

theorem State.judgeSchedule_other (s : State) (p q : Fin 16) (h : q ≠ p) : (s.judgeSchedule p).portals[q] = s.portals[q] :=
  State.modPortal_other _ _ _ _ h.symm

theorem State.portalBoundary_other (s : State) (p q : Fin 16) (h : q ≠ p) :
    (s.portalBoundary p).portals[q] = s.portals[q] := by
  rw [State.portalBoundary, State.recomputeMode_other _ _ _ h, State.judgeSchedule_other _ _ _ h]

@[simp] theorem State.portalBoundary_core (s : State) (p : Fin 16) : (s.portalBoundary p).core = s.core := by
  rw [State.portalBoundary, State.recomputeMode_core]
  rfl

/-- A verdict looks at the clock, the profiles and the holidays alone. -/
theorem State.verdict_congr {s t : State} (h : t.core = s.core) (n : Nat) : t.verdict n = s.verdict n := by
  obtain ⟨_, _, hclock, _, hstore⟩ := State.core_eq_iff.mp h
  have hprofiles : t.store.mirror.profiles = s.store.mirror.profiles := congrArg (·.mirror.profiles) hstore
  have hholidays : t.store.mirror.holidays = s.store.mirror.holidays := congrArg (·.mirror.holidays) hstore
  rw [State.verdict, State.verdict, profileOf, profileOf, dayClass, dayClass, hclock, hprofiles, hholidays]

/-- A schedule is judged by the clock and by records that no owner spends. -/
theorem State.scheduleVerdict_congr {s t : State} (h : t.core = s.core) (p : Fin 16) :
    t.scheduleVerdict p = s.scheduleVerdict p ∧ t.portalRec p = s.portalRec p := by
  obtain ⟨_, _, _, _, hstore⟩ := State.core_eq_iff.mp h
  have hportals : t.store.mirror.portals = s.store.mirror.portals := congrArg (·.mirror.portals) hstore
  have hrec : t.portalRec p = s.portalRec p := by rw [State.portalRec, State.portalRec, hportals]
  refine ⟨?_, hrec⟩
  rw [State.scheduleVerdict, State.scheduleVerdict, hrec]
  cases (s.portalRec p).freeProfile with
  | none => rfl
  | some f => exact State.verdict_congr h f

/-- A portal after its part of a boundary: the verdict is the schedule's, and the mode follows fire, hold, verdict and base
mode. -/
theorem State.portalBoundary_self (s : State) (p : Fin 16) :
    (s.portalBoundary p).portals[p].verdict = s.scheduleVerdict p
      ∧ (s.portalBoundary p).portals[p].hold = s.portals[p].hold
      ∧ (s.portalBoundary p).portals[p].mode =
          if s.egressUnderFire p = true then .free
          else (s.portals[p].hold).elim
            (if s.scheduleVerdict p = .inWindow then .free else (s.portalRec p).baseMode.mode) id := by
  have hjudged : (s.judgeSchedule p).portals[p] = { s.portals[p] with verdict := s.scheduleVerdict p } :=
    State.modPortal_self ..
  refine ⟨?_, ?_, ?_⟩
  · rw [State.portalBoundary, (State.recomputeMode_kept _ p).1, hjudged]
  · rw [State.portalBoundary, State.recomputeMode_hold, hjudged]
  · rw [State.portalBoundary, State.recomputeMode_mode, State.effectiveMode, hjudged]
    show (if s.egressUnderFire p = true then _ else _) = _
    cases s.portals[p].hold <;> rfl

/-- Where no portal's mode is changed by its part of the boundary, the schedules alone are judged. -/
theorem foldl_portalBoundary_same {l : List (Fin 16)} (hl : l.Nodup) {s : State}
    (h : ∀ p ∈ l, (l.foldl State.portalBoundary s).portals[p].mode = s.portals[p].mode) :
    l.foldl State.portalBoundary s = l.foldl State.judgeSchedule s := by
  induction l generalizing s with
  | nil => rfl
  | cons q l ih =>
    obtain ⟨hq, hl⟩ := List.nodup_cons.mp hl
    have hafter : (l.foldl State.portalBoundary (s.portalBoundary q)).portals[q] = (s.portalBoundary q).portals[q] :=
      foldl_portal_after State.portalBoundary_other hq _
    have hmode := h q List.mem_cons_self
    rw [List.foldl_cons, hafter] at hmode
    have hjudged : (s.judgeSchedule q).portals[q].mode = s.portals[q].mode := by
      rw [State.judgeSchedule, State.modPortal_self]
    have hfirst : s.portalBoundary q = s.judgeSchedule q := by
      refine State.recomputeMode_of_same ?_
      rw [hjudged, ← hmode, State.portalBoundary, State.recomputeMode_mode]
    rw [List.foldl_cons, List.foldl_cons, hfirst]
    refine ih hl fun p hp => ?_
    have hne : p ≠ q := fun he => hq (he ▸ hp)
    have hother := h p (List.mem_cons_of_mem q hp)
    rw [List.foldl_cons, hfirst] at hother
    rw [hother, State.judgeSchedule_other _ _ _ hne]

/-- Judging the schedules changes the verdicts of portals alone. -/
theorem foldl_judgeSchedule (l : List (Fin 16)) (s : State) :
    l.foldl State.judgeSchedule s = { s with portals := (l.foldl State.judgeSchedule s).portals } := by
  refine foldl_invariant (P := fun t : State => t = { s with portals := t.portals }) (fun t p ht => ?_) l rfl
  rw [ht]
  rfl

/-! ## The boundary of a running part -/

theorem State.countOutOfWindow_core (s : State) : s.countOutOfWindow.core = s.core := by
  rw [State.countOutOfWindow_kept]
  rfl

/-- Every portal after a boundary. -/
theorem State.bounded_portal (s : State) (k : Clock) (p : Fin 16) :
    (s.bounded k).portals[p].verdict = State.scheduleVerdict { s with clock := k } p
      ∧ (s.bounded k).portals[p].hold = s.portals[p].hold
      ∧ (s.bounded k).portals[p].mode =
          if s.egressUnderFire p = true then .free
          else (s.portals[p].hold).elim
            (if (s.bounded k).portals[p].verdict = .inWindow then .free else (s.portalRec p).baseMode.mode) id := by
  obtain ⟨u, hu⟩ : ∃ u, u = State.countOutOfWindow { s with clock := k } := ⟨_, rfl⟩
  have hkept := State.countOutOfWindow_kept { s with clock := k }
  rw [← hu] at hkept
  have hcore : u.core = State.core { s with clock := k } := by rw [hu, State.countOutOfWindow_core]
  have huportals : u.portals = s.portals := by rw [hkept]
  have hufire : u.fire = s.fire := by rw [hkept]
  obtain ⟨w, ⟨hwcore, hwfire⟩, hwp, hstep⟩ := foldl_portal_step (I := fun t => t.core = u.core ∧ t.fire = u.fire)
    State.portalBoundary_other (fun t q ht => ⟨(t.portalBoundary_core q).trans ht.1, by rw [← ht.2]; simp⟩)
    (l := allPortals) (by decide) (mem_allPortals p) (s := u) ⟨rfl, rfl⟩
  obtain ⟨hverdict, hrec⟩ := State.scheduleVerdict_congr (hwcore.trans hcore) p
  have hunder : w.egressUnderFire p = s.egressUnderFire p := by
    rw [State.egressUnderFire, hrec, hwfire, hufire]
    rfl
  have hself : (s.bounded k).portals[p] = (w.portalBoundary p).portals[p] := by rw [State.bounded, ← hu, hstep]
  obtain ⟨sverdict, shold, smode⟩ := w.portalBoundary_self p
  rw [hwp, huportals] at shold smode
  rw [hself, sverdict, hverdict, smode, shold, hunder, hverdict, hrec]
  exact ⟨rfl, rfl, rfl⟩

theorem State.bounded_clock (s : State) (k : Clock) : (s.bounded k).clock = k := by
  have hcore : (s.bounded k).core = State.core { s with clock := k } := by
    rw [State.bounded, foldl_keeps State.core State.portalBoundary State.portalBoundary_core, State.countOutOfWindow_core]
  exact (State.core_eq_iff.mp hcore).2.2.1

/-- A boundary at which no portal changes mode: the roster has been stepped and every verdict is the new one. -/
theorem State.bounded_of_same {s : State} {k : Clock}
    (h : ∀ p : Fin 16, (s.bounded k).portals[p].mode = s.portals[p].mode) :
    s.bounded k = { State.countOutOfWindow { s with clock := k } with portals := (s.bounded k).portals }
      ∧ ∀ p : Fin 16, (s.bounded k).portals[p] = { s.portals[p] with verdict := (s.bounded k).portals[p].verdict } := by
  obtain ⟨u, hu⟩ : ∃ u, u = State.countOutOfWindow { s with clock := k } := ⟨_, rfl⟩
  have huportals : u.portals = s.portals := by rw [hu, State.countOutOfWindow_kept]
  have hjudged : s.bounded k = allPortals.foldl State.judgeSchedule u := by
    rw [State.bounded, ← hu]
    refine foldl_portalBoundary_same (by decide) fun p _ => ?_
    have hp := h p
    rw [State.bounded, ← hu] at hp
    rw [hp, huportals]
  rw [hjudged, ← hu]
  refine ⟨foldl_judgeSchedule allPortals u, fun p => ?_⟩
  obtain ⟨w, _, hwp, hstep⟩ := foldl_portal_step (I := fun _ => True) State.judgeSchedule_other (fun _ _ => id)
    (l := allPortals) (by decide) (mem_allPortals p) (s := u) trivial
  rw [hstep, State.judgeSchedule, State.modPortal_self, hwp, huportals]

/-- Settles O23: the boundary steps the roster and judges every schedule; where no mode changes, that is all. -/
theorem boundaryCounts : Obligations.BoundaryCounts := by
  refine ⟨fun s k hk => ⟨fun hrun => ?running, fun hstop hdue => ?stopped⟩, fun s e => ⟨State.stepEntry_of_in, ?out⟩⟩
  case stopped =>
    rcases hk with ⟨_, rfl⟩ | ⟨hends, _⟩
    · exact exec_minuteBoundary_stopped hstop hdue
    · exact absurd (Clock.endsMinute_iff.mp hends).2.2 (by rw [hdue]; decide)
  case out =>
    intro hverdict hcounter
    rw [State.stepEntry_of_out hverdict]
    refine ⟨?_, decide_eq_true_iff, rfl, rfl, rfl⟩
    show min (e.counter + 1) 255 = _
    split <;> omega
  case running =>
    have hexec := exec_minuteBoundary_running hrun hk
    have hportal := s.bounded_portal k
    have hsame := State.bounded_of_same (s := s) (k := k)
    have hclock := s.bounded_clock k
    have hkept := State.countOutOfWindow_kept { s with clock := k }
    generalize s.bounded k = t at hexec hportal hsame hclock
    refine ⟨_, hexec, hclock, fun p => ?_, fun hmodes => ?_⟩
    · obtain ⟨hverdict, hhold, hmode⟩ := hportal p
      rw [State.drive_portals]
      refine ⟨hverdict, hhold, ?_⟩
      rw [hmode]
      cases s.portals[p].hold <;> rfl
    · obtain ⟨hframe, hportals⟩ := hsame hmodes
      have hroster : t.roster = (State.countOutOfWindow { s with clock := k }).roster := by rw [hframe]
      have hjournal : t.journal = (State.countOutOfWindow { s with clock := k }).journal := by rw [hframe]
      have hoffice : t.office = (State.countOutOfWindow { s with clock := k }).office := by rw [hframe]
      simp only [State.drive_portals, State.drive_roster, State.drive_journal, State.drive_office]
      refine ⟨by rw [hroster, hkept], hportals, fun hclear => ⟨fun e he hnot hover => ?_, fun hroom => ?_⟩,
        fun hfire => ?_, ?_⟩
      · rw [hoffice]
        refine State.countOutOfWindow_flag (s := { s with clock := k }) hclear he ?_
        rw [State.overstays, hnot, hover]
        rfl
      · rw [hjournal, State.countOutOfWindow_journal (s := { s with clock := k }) hclear hroom]
        rfl
      · rw [hjournal, hoffice, State.countOutOfWindow_frozen (s := { s with clock := k }) hfire]
        exact ⟨rfl, rfl⟩
      · apply State.eq_of_fields
        case portals | clock | roster | journal | office | outs => rfl
        all_goals simp only [State.drive_pending, State.drive_power, State.drive_pins, State.drive_store, State.drive_cars,
          State.drive_referrals, State.drive_ticketCounter, State.drive_fire, State.drive_field, State.drive_freeCount]
        all_goals rw [hframe, hkept]

end Sys2Proof.Machine
